-- ==== Sys2Proof/Word.lean ====
section
/-! DEFINITION. The word of the zone line and of the configuration image: one byte. -/

namespace Sys2Proof

/-- One byte on the zone line or in the configuration image. -/
abbrev Byte := BitVec 8

end Sys2Proof
end

