-- ==== Sys2Proof/Syntax.lean ====
section
/-! DEFINITION. The commands of the part: one constructor of `Instr` for each row of
spec/opcode_table.json. An operand is what the event brings with it from outside the part. -/

namespace Sys2Proof

/-- The station's role, chosen by the role strap: low ZONE, high PLANT (R184). -/
inductive Role where
  | zone
  | plant
  deriving DecidableEq, Repr

/-- The level of a dry contact input: the outside closes it or leaves it open (02, section 2.3). -/
inductive Level where
  | opened
  | closed
  deriving DecidableEq, Repr

/-- Which of the two contact inputs: ZONE WINDOW and OCCUPANCY, PLANT DEFROST ACTIVE and
OUTDOOR FAULT. -/
inductive Contact where
  | first
  | second
  deriving DecidableEq, Repr

/-- One conversion result: a value (tenths of °C or tenths of %RH), or the converter's open or
short report (02, section 2.1). -/
inductive Conversion where
  | value (v : Int)
  | openCircuit
  | shortCircuit
  deriving DecidableEq, Repr

/-- The two units that take snapshots of the peer table (R23). -/
inductive ReckoningUnit where
  | share
  | plant
  deriving DecidableEq, Repr

/-- A byte received without a framing error, with the idle time of the line before its start bit,
in bit-times (R157, R158). Two byte-times are 20 bit-times. -/
structure LineByte where
  idleBits : Nat
  value : Byte
  deriving DecidableEq, Repr

/-- The commands: the rows of spec/opcode_table.json. A command that names a frame or a request has
no operand for it: the frame handler takes the older frame of the receive pair (R164). -/
inductive Instr where
  /-- RESET: the reset is released with the role strap, the six address straps and the levels of the
  two contact inputs as given (R184). -/
  | reset (role : Role) (address : BitVec 6) (contact1 contact2 : Level)
  /-- START_END: 150 ms have passed; `image` holds the bytes the configuration memory answered, in
  address order, fewer than 64 where it did not answer or stopped answering (R1, R185). -/
  | startEnd (image : List Byte)
  | joinWindowExpiry
  | rollCallWaitExpiry
  | duplicateHoldExpiry
  | agingExpiry
  | lineQuietExpiry
  | announce
  | plantStatus
  | rollCall
  | present
  | setpoint
  | setpointReply
  | result
  | unknownKindFrame
  | tableWriteApplied
  /-- SNAPSHOT_END of the share unit's or of the plant sequencer's snapshot (R23). -/
  | snapshotEnd (unit : ReckoningUnit)
  | peer
  | status
  | share
  | plant
  | dump
  /-- CLEAR; `endStop` is the end-stop's level at this moment, read if a homing run begins (R87). -/
  | clear (endStop : Bool)
  | rehome (endStop : Bool)
  | hold (endStop : Bool)
  | restart
  | restartCarriedOut
  | dumpNextResult
  /-- SAMPLE_TIMER_EXPIRY with the conversion results of the two channels (R25). -/
  | sampleTimerExpiry (first second : Conversion)
  /-- CONTACT_LEVEL_CHANGE: the contact's level becomes `level` (R31). -/
  | contactLevelChange (contact : Contact) (level : Level)
  | debounceExpiry (contact : Contact)
  | announcePeriodExpiry
  | spacingExpiry
  | shareReckoningEnd (endStop : Bool)
  | alignmentEnd (endStop : Bool)
  /-- HOMING_STEP with the stall sense and the end-stop as read at the step (R87). -/
  | homingStep (stall endStop : Bool)
  /-- MOVE_STEP with the stall sense and the end-stop as read at the step (R90). -/
  | moveStep (stall endStop : Bool)
  | settleEnd
  | holdTimerExpiry (endStop : Bool)
  | plantTimerExpiry
  | plantReckoningEnd
  | minOnExpiry
  | minOffExpiry
  | dwellExpiry
  | changeoverPauseExpiry
  | frostTimerExpiry
  | tripTimerExpiry
  | defrostOverlongExpiry
  | statusPeriodExpiry
  | statusSpacingExpiry
  /-- RECEIVED_FRAME: a run of bytes that completes a frame, after which the line is idle (R162). -/
  | receivedFrame (bytes : List LineByte)
  /-- FRAMING_ERROR: a byte without a mark stop bit, after `idleBits` bit-times of idle; the echo of the
  byte being sent while an attempt is in flight. `lineHeld`: the line goes on standing in space (R158). -/
  | framingError (idleBits : Nat) (lineHeld : Bool)
  /-- TRUNCATED: a run of bytes (empty if none came since the last event), then more than 2
  byte-times of idle (R161). -/
  | truncated (bytes : List LineByte)
  /-- LENGTH: a run of bytes that holds a body-length byte above 32, after which the line is idle
  (R161). -/
  | length (bytes : List LineByte)
  /-- ATTEMPT_START: the line has been idle for `idleBits` bit-times (R167). -/
  | attemptStart (idleBits : Nat)
  | transmissionComplete
  /-- LOST_ATTEMPT: of the echo bytes that have not come back yet `matched` matched, then the byte
  `wrong` came back (`none`: with a framing error). `goesOn`: another device sends on, so the line is
  not idle yet (R168, R169). -/
  | lostAttempt (matched : Nat) (wrong : Option Byte) (goesOn : Bool)
  | stuck
  /-- STUCK_END: the line returns to mark after standing in space, stuck or not (R157, R171). -/
  | stuckEnd
  | resetAsserted
  deriving DecidableEq, Repr

end Sys2Proof
end

