-- ==== Sys2Proof/Config.lean ====
section
/-! DEFINITION. What the part fixes: its timer lengths and thresholds, in the manual's units; the
configuration product and its defaults (R186); and the one value the manual leaves open. -/

namespace Sys2Proof.Config

/-- Milliseconds of the part's durations. START lasts 150 ms (R1, R184). -/
def startMs : Nat := 150
/-- The join window of LISTEN, 5 s (R4). -/
def joinWindowMs : Nat := 5000
/-- The roll-call wait of CLAIM, 250 ms (R6). -/
def rollCallWaitMs : Nat := 250
/-- The duplicate hold, 120 s (R10). -/
def duplicateHoldMs : Nat := 120000
/-- The aging timer of the peer table, 1 s (R17). -/
def agingMs : Nat := 1000
/-- The line-quiet timer, 60 s (R22). -/
def lineQuietMs : Nat := 60000
/-- The sample timer, 2 s (R25). -/
def sampleMs : Nat := 2000
/-- A contact's debounce timer, 2 s (R31). -/
def debounceMs : Nat := 2000
/-- The announce period timer, 15 s (R55). -/
def announcePeriodMs : Nat := 15000
/-- The announce spacing timer, 2 s (R57). -/
def announceSpacingMs : Nat := 2000
/-- The computation of a reckoning, after its snapshot, 2 ms (R64, R108). -/
def computationMs : Nat := 2
/-- The phase alignment after reset, 100 ms (R85). -/
def alignmentMs : Nat := 100
/-- One motor step, 5 ms (R87, R90). -/
def stepMs : Nat := 5
/-- The settling of the blade after IDLE is entered, 200 ms (R103). -/
def settleMs : Nat := 200
/-- The service hold, 600 s (R98). -/
def holdMs : Nat := 600000
/-- The plant timer, 5 s (R105). -/
def plantMs : Nat := 5000
/-- The min-on timer, 120 s (R117). -/
def minOnMs : Nat := 120000
/-- The min-off timer, 180 s (R118). -/
def minOffMs : Nat := 180000
/-- The changeover pause, 180 s (R119). -/
def pauseMs : Nat := 180000
/-- The frost timer, 300 s (R145). -/
def frostMs : Nat := 300000
/-- The trip timer, 300 s (R146). -/
def tripMs : Nat := 300000
/-- The defrost overlong timer, 900 s (R152). -/
def overlongMs : Nat := 900000
/-- The status period timer, 5 s (R138). -/
def statusPeriodMs : Nat := 5000
/-- The status spacing timer, 1 s (R140). -/
def statusSpacingMs : Nat := 1000

/-- The room of the peer table (R12). -/
def tableRoom : Nat := 24
/-- The highest damper position: fully open (00, Units). -/
def fullyOpen : Nat := 1200

/-- The pattern the four phase outputs STP_A..STP_D show at a place of the motor's step sequence.
The manual gives the moves along the sequence (R103) and not the patterns, so this is a free
value. -/
opaque phasePattern : Int → BitVec 4

/-- The configuration product that the loader hands to the blocks (R184, R186). -/
structure Product where
  /-- T0..T8, the characteristic table: nine positions (R187). -/
  table : List Nat
  fallback : Nat
  /-- One flag for each alert condition, in the order of R192. -/
  alertMask : Byte
  qd : Nat
  relief : Nat
  weight : Nat
  /-- PB, the proportional band (R44). -/
  band : Nat
  posMin : Nat
  heat : Int
  cool : Int
  humidity : Int
  setback : Int
  panelLock : Bool
  lockSpan : Int
  windowUse : Bool
  occupancyUse : Bool
  qmax : Nat
  qminHeat : Nat
  qminCool : Nat
  qminDry : Nat
  qpurge : Nat
  slew : Nat
  kmin : Nat
  margin : Nat
  /-- The dwell, in seconds (R116). -/
  dwell : Nat
  /-- Qbp, the bypass design airflow (R82). -/
  qbp : Nat
  deriving DecidableEq, Repr

/-- The straight-line characteristic table (R186, R187). -/
def straightLine : List Nat := [0, 150, 300, 450, 600, 750, 900, 1050, 1200]

/-- Every field at its default (R186); the default mask selects all eight conditions. -/
def defaults : Product where
  table := straightLine
  fallback := 1200
  alertMask := 0xFF
  qd := 20
  relief := 0
  weight := 1
  band := 20
  posMin := 60
  heat := 200
  cool := 240
  humidity := 55
  setback := 30
  panelLock := false
  lockSpan := 10
  windowUse := true
  occupancyUse := false
  qmax := 80
  qminHeat := 40
  qminCool := 48
  qminDry := 32
  qpurge := 32
  slew := 6
  kmin := 25
  margin := 100
  dwell := 600
  qbp := 0

end Sys2Proof.Config
end

