-- ==== Sys2Proof/Machine/State.lean ====
section
/-! DEFINITION. The state of the part as plain data, block by block, and the state after reset. -/

namespace Sys2Proof.Machine

/-- A timer. A running timer holds the moment it is due, in milliseconds of `State.now`. A timer
that is stopped is not expired (R104). -/
inductive Timer where
  | stopped
  | running (due : Nat)
  | expired
  deriving DecidableEq, Repr

/-- The station states (01, section 1.1). -/
inductive Station where
  | start
  | unaddressed
  | listen
  | claim
  | online
  | duplicate
  deriving DecidableEq, Repr

/-- A zone's wanted mode (R47). -/
inductive WantedMode where
  | none
  | heat
  | cool
  | dry
  deriving DecidableEq, Repr

/-- The plant states (06, section 6.1). -/
inductive PlantMode where
  | idle
  | heat
  | cool
  | dry
  | changeover
  | lockout
  deriving DecidableEq, Repr

/-- The cause a LOCKOUT shows (R122). -/
inductive LockoutCause where
  | none
  | outdoorFault
  | frostLockout
  deriving DecidableEq, Repr

/-- The zone flags of a zone record (R54). -/
structure ZoneFlags where
  tempFault : Bool
  humFault : Bool
  windowOpen : Bool
  damperFault : Bool
  plantSilent : Bool
  twoPlants : Bool
  deriving DecidableEq, Repr

/-- The phase flags of a plant record (R12, R137). -/
structure PhaseFlags where
  startHeld : Bool
  runHeld : Bool
  defrost : Bool
  frostGuard : Bool
  frostTrip : Bool
  highLimit : Bool
  overlong : Bool
  deriving DecidableEq, Repr

/-- The other flags of a plant record (R12, R137). -/
structure PlantFlags where
  twoPlants : Bool
  coilFault : Bool
  supplyFault : Bool
  deriving DecidableEq, Repr

/-- What a zone announces (R12, R53). -/
structure ZoneRecord where
  wanted : WantedMode
  demand : Nat
  weight : Nat
  qd : Nat
  relief : Nat
  reliefAvailable : Bool
  temperature : Int
  humidity : Nat
  position : Nat
  flags : ZoneFlags
  deriving DecidableEq, Repr

/-- What a plant announces (R12, R137). -/
structure PlantRecord where
  mode : PlantMode
  phases : PhaseFlags
  qb : Nat
  qminEff : Nat
  qmax : Nat
  kc : Nat
  cause : LockoutCause
  flags : PlantFlags
  deriving DecidableEq, Repr

/-- An entry's record: a zone record or a plant record, never both. The entry's role is the record's
kind (R12). -/
inductive Record where
  | zone (r : ZoneRecord)
  | plant (r : PlantRecord)
  deriving DecidableEq, Repr

/-- Whether a peer was heard within its stale limit (R12). -/
inductive Standing where
  | fresh
  | stale
  deriving DecidableEq, Repr

/-- One entry of the peer table (R12). -/
structure Entry where
  address : Nat
  standing : Standing
  age : Nat
  heard : Nat
  record : Record
  deriving DecidableEq, Repr

/-- The membership unit (01). `table` holds the eight chains laid end to end, chain 0 first, each in
its order of admission. `deferred` counts the aging expiries that wait on a snapshot, and `emptying`
is the emptying by a RESTART that waits on one; it says whether a plant was followed when the
order was carried out (R11, R23). `restartsHanded` counts the RESTART orders handed on and not yet
carried out. -/
structure Membership where
  station : Station
  joinWindow : Timer
  rollCallWait : Timer
  duplicateHold : Timer
  aging : Timer
  lineQuiet : Timer
  table : List Entry
  followed : Option Nat
  tableFull : Bool
  lineQuietLatch : Bool
  tableFullCount : Nat
  deferred : Nat
  emptying : Option Bool
  restartsHanded : Nat
  deriving DecidableEq, Repr

/-- An analogue channel. `filtered` is none while the channel is unseeded (02, section 2.1). -/
structure Channel where
  filtered : Option Int
  fault : Bool
  bad : Nat
  good : Nat
  deriving DecidableEq, Repr

/-- A contact input: the level of its pin, its debounced state (`active`), its debounce timer and
its change latch (02, section 2.3). -/
structure ContactInput where
  level : Level
  active : Bool
  debounce : Timer
  changed : Bool
  deriving DecidableEq, Repr

/-- Room sensing (02). -/
structure Sensing where
  first : Channel
  second : Channel
  contact1 : ContactInput
  contact2 : ContactInput
  sample : Timer
  deriving DecidableEq, Repr

/-- The three figures of the setpoint store (R34). -/
structure Figures where
  heat : Int
  cool : Int
  humidity : Int
  deriving DecidableEq, Repr

/-- The setpoint store: its figures and its home values (R34). -/
structure Setpoints where
  figures : Figures
  home : Figures
  deriving DecidableEq, Repr

/-- The timing state of the station's own announcements: R42 and R55 to R58 for the ANNOUNCE of a
zone, R126 and R138 to R141 for the PLANT STATUS of a plant. `last` is the last announced D, or the
last announced Qb. -/
structure Announcer where
  period : Timer
  spacing : Timer
  waiting : Bool
  last : Option Nat
  deriving DecidableEq, Repr

/-- The demand unit (R42). `unoccupied` is the OCCUPANCY state as the last recompute took it
(R32, R43). -/
structure Demand where
  dHeat : Nat
  dCool : Nat
  dDry : Nat
  wanted : WantedMode
  demand : Nat
  reliefAvailable : Bool
  unoccupied : Bool
  announcer : Announcer
  deriving DecidableEq, Repr

/-- The case of a share record (R80). -/
inductive ShareCase where
  | served
  | relief
  | closed
  | hold
  | fallback
  deriving DecidableEq, Repr

/-- The cause of a FALLBACK or HOLD (R80). -/
inductive ShareCause where
  | notOnline
  | plantSilent
  | idle
  | lockout
  | defrost
  deriving DecidableEq, Repr

/-- The zone's own figures of a share record (R71 to R76). -/
structure OwnShare where
  served : Bool
  claim : Nat
  scaled : Nat
  relief : Nat
  target : Nat
  fraction : Nat
  deriving DecidableEq, Repr

/-- The plant's figures of a share record (R81, R82). -/
structure BypassShare where
  delivered : Nat
  unplaced : Nat
  fraction : Option Nat
  deriving DecidableEq, Repr

/-- Whose figures a formula case holds: the zone's own or the plant's bypass (R80). -/
inductive RoleShare where
  | own (o : OwnShare)
  | bypass (b : BypassShare)
  deriving DecidableEq, Repr

/-- The figures present in the formula cases only (R80). -/
structure ShareFigures where
  qbUsed : Nat
  counted : Nat
  claims : Nat
  pool : Nat
  reliefSum : Nat
  roleShare : RoleShare
  deriving DecidableEq, Repr

/-- The share record; `none` is a field its case leaves absent (R80). -/
structure ShareRecord where
  case : ShareCase
  cause : Option ShareCause
  entries : Nat
  followed : Option Nat
  mode : Option PlantMode
  figures : Option ShareFigures
  position : Option Nat
  handed : Option Bool
  deriving DecidableEq, Repr

/-- A reckoning in flight is taking its snapshot or computing (R64, R108). -/
inductive Phase where
  | snapshot
  | computing
  deriving DecidableEq, Repr

/-- A zone as a reckoning counts it: the fields of its record that the formulas read (R70). -/
structure Counted where
  wanted : WantedMode
  demand : Nat
  weight : Nat
  qd : Nat
  relief : Nat
  reliefAvailable : Bool
  deriving DecidableEq, Repr

/-- The snapshot of a share reckoning with the items noted at its beginning (R23, R64). In the zone
role `own` is the station's own record and `source` the record of the followed plant; in the plant role
`source` is the own record, and `own` is not used. -/
structure ShareSnapshot where
  entries : List Entry
  online : Bool
  silent : Bool
  own : ZoneRecord
  followed : Option Nat
  source : Option PlantRecord
  deriving DecidableEq, Repr

/-- A share reckoning in flight; `due` is the end of the phase it is in. -/
structure ShareFlight where
  phase : Phase
  due : Nat
  snapshot : ShareSnapshot
  deriving DecidableEq, Repr

/-- The share unit (R60). `mark` is the pending mark. -/
structure Share where
  flight : Option ShareFlight
  mark : Bool
  record : ShareRecord
  standing : Nat
  deriving DecidableEq, Repr

/-- The drive states (05, section 5.1). -/
inductive DriveState where
  | unhomed
  | homing
  | idle
  | moving
  | fault
  deriving DecidableEq, Repr

/-- The fault cause of the drive (R84). -/
inductive FaultCause where
  | none
  | homeFail
  | stall
  | endStopStuck
  deriving DecidableEq, Repr

/-- The damper drive (R84, R87, R103). `count` is none while the position count is not valid,
`homingSteps` the steps of the homing run in progress, `phasePlace` the place of the pattern held, or
last held, in the motor's phase sequence, `aligned` whether that is the alignment's, the pattern of the
first closing step (R85), and `endStop` the level of the end-stop input as last read. -/
structure Drive where
  state : DriveState
  count : Option Nat
  target : Nat
  hold : Timer
  stallCount : Nat
  retry : Bool
  rehomeDue : Bool
  completed : Nat
  sinceStop : Nat
  stuckSteps : Nat
  cause : FaultCause
  slip : Bool
  closedNotConfirmed : Bool
  slipCount : Nat
  homingSteps : Nat
  alignment : Timer
  step : Timer
  settle : Timer
  phasePlace : Int
  aligned : Bool
  phasesOn : Bool
  endStop : Bool
  deriving DecidableEq, Repr

/-- The arbitration state of the plant sequencer (R104). The sum K is `cs + ys`. -/
structure Arbitration where
  mode : PlantMode
  startHeld : Bool
  runHeld : Bool
  minOn : Timer
  minOff : Timer
  dwell : Timer
  pause : Timer
  frostLockout : Bool
  cause : LockoutCause
  hs : Nat
  cs : Nat
  ys : Nat
  valve : Bool
  deriving DecidableEq, Repr

/-- The airflow and capacity state and the equipment outputs (R126, R135). -/
structure Air where
  qt : Nat
  qb : Nat
  qminEff : Nat
  sp : Nat
  dw : Nat
  kc : Nat
  call : Bool
  fanOut : Nat
  capOut : Nat
  deriving DecidableEq, Repr

/-- The protection state (R142). `defrost` is the defrost phase, `overlong` the defrost overlong
timer and `overlongFlag` its flag. -/
structure Protection where
  coilCold : Bool
  coilFrozen : Bool
  coilThawed : Bool
  supplyHot : Bool
  guard : Bool
  frostTimer : Timer
  trip : Bool
  tripTimer : Timer
  tripCount : Nat
  highLimit : Bool
  boost : Nat
  defrost : Bool
  overlong : Timer
  overlongFlag : Bool
  heldCapacity : Option Nat
  ignored : Nat
  deriving DecidableEq, Repr

/-- A plant reckoning in flight: its snapshot of the table and of the own record, Qb in it (R23, R131),
the items noted at its beginning (R108, R143), and whether leaving ONLINE has made it void. -/
structure PlantFlight where
  phase : Phase
  due : Nat
  entries : List Entry
  own : PlantRecord
  online : Bool
  arb : Arbitration
  prot : Protection
  outdoorFault : Bool
  defrostActive : Bool
  coilUsable : Bool
  supplyUsable : Bool
  void : Bool
  deriving DecidableEq, Repr

/-- The plant sequencer (06, 07, 08). `mark` is the pending mark and `unplaced` the U of the last
share reckoning (R65). -/
structure Plant where
  arb : Arbitration
  air : Air
  prot : Protection
  announcer : Announcer
  timer : Timer
  flight : Option PlantFlight
  mark : Bool
  unplaced : Option Nat
  deriving DecidableEq, Repr

/-- A frame: destination, source, kind and body; its body length is the body's (R159, R189). -/
structure Frame where
  dest : Byte
  src : Byte
  kind : Byte
  body : List Byte
  deriving DecidableEq, Repr

/-- The kinds of frame a station sends (R165). -/
inductive TxKind where
  | rollCall
  | announce
  | plantStatus
  | present
  | setpointReply
  | result
  deriving DecidableEq, Repr

/-- What the service responder is told of when a RESULT of its own leaves the queue: nothing, that
it answers a RESTART order (R179), or that it is a dump RESULT, with LAST or without (R181). -/
inductive ResultUse where
  | plain
  | restart
  | dump (last : Bool)
  deriving DecidableEq, Repr

/-- An entry of the transmit queue (R165). The list order is the placing order. The body is absent
until an attempt starts for a periodic frame. `inFlight` marks the entry being sent. -/
structure TxEntry where
  kind : TxKind
  dest : Nat
  body : Option (List Byte)
  lost : Nat
  inFlight : Bool
  use : ResultUse
  deriving DecidableEq, Repr

/-- The nine latches of the line controller (R172). -/
structure LineLatches where
  framing : Bool
  truncated : Bool
  length : Bool
  check : Bool
  overrun : Bool
  unknown : Bool
  replyDropped : Bool
  crowded : Bool
  stuck : Bool
  deriving DecidableEq, Repr

/-- The six counters of the line controller (R172). -/
structure LineCounters where
  good : Nat
  framing : Nat
  check : Nat
  overrun : Nat
  lostAttempts : Nat
  replyDropped : Nat
  deriving DecidableEq, Repr

/-- The line controller (09). `assembly` holds the bytes of the frame in assembly, lead first (empty:
none), `idle` whether the line is idle, `space` whether it stands in space after a byte without a stop
bit (R157, R158), `pair` the receive pair, oldest first, `current` the frame handler's current frame,
`echoed` how many bytes of the frame in flight have come back as sent (R168), and `wait` the extra drawn
for the wait period in progress. -/
structure Line where
  assembly : List Byte
  idle : Bool
  space : Bool
  pair : List Frame
  current : Option Frame
  queue : List TxEntry
  echoed : Nat
  wait : Option Nat
  sequence : Nat
  stuck : Bool
  latches : LineLatches
  counters : LineCounters
  deriving DecidableEq, Repr

/-- A dump in flight (R180). `nextDue`: a dump RESULT has left the queue and the next one is to be
built (R181). -/
structure Dump where
  requester : Nat
  chain : Nat
  position : Nat
  remaining : Nat
  abort : Bool
  nextDue : Bool
  deriving DecidableEq, Repr

/-- A RESTART order taken and not yet handed on: whether its own DONE result and whether the dump's
last RESULT have still to leave the queue (R179, R182). -/
structure RestartWait where
  done : Bool
  dumpEnd : Bool
  deriving DecidableEq, Repr

/-- The service responder (10). -/
structure Responder where
  dump : Option Dump
  waiting : List RestartWait
  deriving DecidableEq, Repr

/-- The whole part. `now` is the part's clock in milliseconds since the reset was released. `pending`
is the queue of commands that wait, first in, first out. -/
structure State where
  held : Bool
  now : Nat
  role : Role
  address : Nat
  startTimer : Timer
  cfg : Config.Product
  configFault : Bool
  configClamped : Bool
  member : Membership
  sensing : Sensing
  setpoints : Setpoints
  demand : Demand
  share : Share
  drive : Drive
  plant : Plant
  line : Line
  responder : Responder
  pending : List Instr
  deriving DecidableEq, Repr

/-- No command of this part stops it: the spec gives each one an effect, so no meaning raises a
fault and the type has no constructor (safe: there is nothing to raise). -/
inductive Fault where
  deriving DecidableEq, Repr

/-- Why a step answers no state. -/
inductive Refusal where
  /-- Raised by `exec`'s arm for a command that has no meaning yet, and by nothing else (safe: nothing
  can be proved of the command). No arm of this model raises it. -/
  | notModelled (mnemonic : String)
  deriving DecidableEq, Repr

/-- The outcome of a command. -/
abbrev Outcome := Host.Outcome State Fault Refusal

/-- A channel after reset: unseeded, without fault, both counts 0 (R30). -/
def Channel.reset : Channel := { filtered := none, fault := false, bad := 0, good := 0 }

/-- A contact input after reset, at the level its pin shows (R33). -/
def ContactInput.reset (level : Level) : ContactInput :=
  { level, active := false, debounce := .stopped, changed := false }

/-- Announcements stopped: after reset, and on leaving ONLINE (R42, R58, R126, R141). -/
def Announcer.reset : Announcer :=
  { period := .stopped, spacing := .stopped, waiting := false, last := none }

/-- The setpoint figures of a configuration product, before the push of R34. -/
def Figures.ofProduct (c : Config.Product) : Figures :=
  { heat := c.heat, cool := c.cool, humidity := c.humidity }

/-- The share record after reset: FALLBACK, not online, at the fallback position (R60). Its entries are
0 and its hand-over false: DESIGN CHOICE, log entry 32; R60 gives the case, cause and position. -/
def ShareRecord.reset (fallback : Nat) : ShareRecord where
  case := .fallback
  cause := some .notOnline
  entries := 0
  followed := none
  mode := none
  figures := none
  position := some fallback
  handed := some false

/-- The damper drive after reset: UNHOMED, in its alignment (R84, R85). -/
def Drive.reset (fallback : Nat) : Drive where
  state := .unhomed
  count := none
  target := fallback
  hold := .stopped
  stallCount := 0
  retry := false
  rehomeDue := false
  completed := 0
  sinceStop := 1320
  stuckSteps := 0
  cause := .none
  slip := false
  closedNotConfirmed := false
  slipCount := 0
  homingSteps := 0
  alignment := .running Config.alignmentMs
  step := .stopped
  settle := .stopped
  phasePlace := 0
  aligned := true
  phasesOn := true
  endStop := false

/-- The arbitration state after reset; min-off runs from the reset (R104). -/
def Arbitration.reset : Arbitration where
  mode := .idle
  startHeld := false
  runHeld := false
  minOn := .stopped
  minOff := .running Config.minOffMs
  dwell := .stopped
  pause := .stopped
  frostLockout := false
  cause := .none
  hs := 0
  cs := 0
  ys := 0
  valve := false

/-- The airflow and capacity state after reset (R126). -/
def Air.reset : Air where
  qt := 0
  qb := 0
  qminEff := 0
  sp := 0
  dw := 0
  kc := 0
  call := false
  fanOut := 0
  capOut := 0

/-- The protection state after reset (R142). -/
def Protection.reset : Protection where
  coilCold := false
  coilFrozen := false
  coilThawed := false
  supplyHot := false
  guard := false
  frostTimer := .stopped
  trip := false
  tripTimer := .stopped
  tripCount := 0
  highLimit := false
  boost := 0
  defrost := false
  overlong := .stopped
  overlongFlag := false
  heldCapacity := none
  ignored := 0

/-- Every latch of the line controller clear (R172). -/
def LineLatches.clear : LineLatches :=
  { framing := false, truncated := false, length := false, check := false, overrun := false,
    unknown := false, replyDropped := false, crowded := false, stuck := false }

/-- Every counter of the line controller at 0 (R172). -/
def LineCounters.zero : LineCounters :=
  { good := 0, framing := 0, check := 0, overrun := 0, lostAttempts := 0, replyDropped := 0 }

/-- The membership unit after reset (R1). -/
def Membership.reset : Membership where
  station := .start
  joinWindow := .stopped
  rollCallWait := .stopped
  duplicateHold := .stopped
  aging := .stopped
  lineQuiet := .stopped
  table := []
  followed := none
  tableFull := false
  lineQuietLatch := false
  tableFullCount := 0
  deferred := 0
  emptying := none
  restartsHanded := 0

/-- The line controller after reset (R158, R163, R164, R165, R171, R172). -/
def Line.reset : Line where
  assembly := []
  idle := true
  space := false
  pair := []
  current := none
  queue := []
  echoed := 0
  wait := none
  sequence := 0
  stuck := false
  latches := LineLatches.clear
  counters := LineCounters.zero

/-- The part at the release of the reset: the straps as sampled, everything else as the rules give
it after power-on or reset (R1, R184). The blocks hold the loader's defaults until START ends. In the
ZONE role, which has no plant sequencer, the plant block stands at these values and no command changes
it: DESIGN CHOICE, log entry 33. -/
def State.released (role : Role) (address : Nat) (contact1 contact2 : Level) : State where
  held := false
  now := 0
  role := role
  address := address
  startTimer := .running Config.startMs
  cfg := Config.defaults
  configFault := false
  configClamped := false
  member := Membership.reset
  sensing :=
    { first := Channel.reset, second := Channel.reset, contact1 := ContactInput.reset contact1,
      contact2 := ContactInput.reset contact2, sample := .stopped }
  setpoints :=
    { figures := Figures.ofProduct Config.defaults, home := Figures.ofProduct Config.defaults }
  demand :=
    { dHeat := 0, dCool := 0, dDry := 0, wanted := .none, demand := 0, reliefAvailable := false,
      unoccupied := false, announcer := Announcer.reset }
  share :=
    { flight := none, mark := false, record := ShareRecord.reset Config.defaults.fallback,
      standing := Config.defaults.fallback }
  drive := Drive.reset Config.defaults.fallback
  plant :=
    { arb := Arbitration.reset, air := Air.reset, prot := Protection.reset,
      announcer := Announcer.reset, timer := .stopped, flight := none, mark := false,
      unplaced := none }
  line := Line.reset
  responder := { dump := none, waiting := [] }
  pending := []

/-- The machine right after reset. The straps are read low (ZONE, address 0) and both contacts
closed: DESIGN CHOICE, log entry 3, unsafe; RESET gives them otherwise. -/
def State.reset : State := State.released .zone 0 .closed .closed

end Sys2Proof.Machine
end

