-- ==== Sys2Proof/Machine/Operands.lean ====
section
/-! DEFINITION. The byte layouts of chapter 11 and the integer arithmetic of chapter 00: fields of one
and two bytes, the check sums, the frame, and the bodies of ANNOUNCE and PLANT STATUS both ways. -/

namespace Sys2Proof.Machine

/-! ### Integers (00, Integer arithmetic) -/

/-- x held within lo..hi. -/
def clampNat (x lo hi : Nat) : Nat := max lo (min hi x)

/-- x held within lo..hi. -/
def clampInt (x lo hi : Int) : Int := max lo (min hi x)

/-- a / b rounded up, for positive b. -/
def ceilDiv (a b : Nat) : Nat := (a + b - 1) / b

/-- A counter that saturates at its stated maximum. -/
def saturate (n limit : Nat) : Nat := min limit (n + 1)

/-- A counter of 0..255 that wraps. -/
def wrap256 (n : Nat) : Nat := (n + 1) % 256

/-! ### Fields (R189) -/

/-- A field of one byte. -/
def byte (n : Nat) : Byte := BitVec.ofNat 8 n

/-- A 2-byte unsigned field, low byte first. -/
def bytes2 (n : Nat) : List Byte := [byte n, byte (n / 256)]

/-- A 2-byte signed field, two's complement, low byte first. -/
def signed2 (v : Int) : List Byte := bytes2 (BitVec.ofInt 16 v).toNat

/-- A flag as a byte of its own: 1 set, 0 clear. -/
def flagByte (b : Bool) : Byte := if b then 1 else 0

/-- A flag byte: its flags from the least significant bit, unlisted bits 0. -/
def flagsByte (flags : List Bool) : Byte :=
  byte (flags.foldr (fun b n => (if b then 1 else 0) + 2 * n) 0)

/-- A 1-byte field that may be absent: absent carries 255. -/
def byteOpt : Option Nat → Byte
  | some n => byte n
  | none => 255

/-- A 2-byte unsigned field that may be absent: absent carries 65535. -/
def bytes2Opt : Option Nat → List Byte
  | some n => bytes2 n
  | none => bytes2 65535

/-- A 2-byte signed field that may be absent: absent carries −32768. -/
def signed2Opt : Option Int → List Byte
  | some v => signed2 v
  | none => signed2 (-32768)

/-- The byte at an offset of a body, 0 beyond its end. -/
def byteAt (body : List Byte) (i : Nat) : Byte := body.getD i 0

/-- The value of the 1-byte field at an offset. -/
def nat1 (body : List Byte) (i : Nat) : Nat := (byteAt body i).toNat

/-- The value of the 2-byte unsigned field at an offset, low byte first. -/
def nat2 (body : List Byte) (i : Nat) : Nat := nat1 body i + 256 * nat1 body (i + 1)

/-- The value of the 2-byte signed field at an offset. -/
def int2 (body : List Byte) (i : Nat) : Int := (BitVec.ofNat 16 (nat2 body i)).toInt

/-- A flag of the flag byte at an offset. -/
def flagAt (body : List Byte) (i bit : Nat) : Bool := (byteAt body i).getLsbD bit

/-! ### Codes (R191) -/

def roleCode : Role → Nat
  | .zone => 0
  | .plant => 1

def WantedMode.code : WantedMode → Nat
  | .none => 0
  | .heat => 1
  | .cool => 2
  | .dry => 3

/-- A code that names no wanted mode is stored as NONE (R13). -/
def WantedMode.ofCode : Nat → WantedMode
  | 1 => .heat
  | 2 => .cool
  | 3 => .dry
  | _ => .none

def PlantMode.code : PlantMode → Nat
  | .idle => 0
  | .heat => 1
  | .cool => 2
  | .dry => 3
  | .changeover => 4
  | .lockout => 5

/-- A code that names no plant state is stored as IDLE (R13). -/
def PlantMode.ofCode : Nat → PlantMode
  | 1 => .heat
  | 2 => .cool
  | 3 => .dry
  | 4 => .changeover
  | 5 => .lockout
  | _ => .idle

def LockoutCause.code : LockoutCause → Nat
  | .none => 0
  | .outdoorFault => 1
  | .frostLockout => 2

/-- A code that names no lockout cause is stored as none (R13). -/
def LockoutCause.ofCode : Nat → LockoutCause
  | 1 => .outdoorFault
  | 2 => .frostLockout
  | _ => .none

def ShareCase.code : ShareCase → Nat
  | .served => 0
  | .relief => 1
  | .closed => 2
  | .hold => 3
  | .fallback => 4

def ShareCause.code : ShareCause → Nat
  | .notOnline => 0
  | .plantSilent => 1
  | .idle => 2
  | .lockout => 3
  | .defrost => 4

def Station.code : Station → Nat
  | .start => 0
  | .unaddressed => 1
  | .listen => 2
  | .claim => 3
  | .online => 4
  | .duplicate => 5

def DriveState.code : DriveState → Nat
  | .unhomed => 0
  | .homing => 1
  | .idle => 2
  | .moving => 3
  | .fault => 4

def FaultCause.code : FaultCause → Nat
  | .none => 0
  | .homeFail => 1
  | .stall => 2
  | .endStopStuck => 3

def Standing.code : Standing → Nat
  | .fresh => 0
  | .stale => 1

/-- The result codes (R191). -/
inductive ResultCode where
  | done
  | busy
  | range
  | role
  | unknown
  deriving DecidableEq, Repr

def ResultCode.code : ResultCode → Nat
  | .done => 0
  | .busy => 1
  | .range => 2
  | .role => 3
  | .unknown => 4

/-! ### Frames (R159, R189, R190) -/

/-- The frame kinds (R190). -/
inductive FrameKind where
  | rollCall
  | present
  | announce
  | plantStatus
  | setpoint
  | setpointReply
  | query
  | order
  | result
  deriving DecidableEq, Repr

def FrameKind.code : FrameKind → Nat
  | .rollCall => 0x10
  | .present => 0x11
  | .announce => 0x20
  | .plantStatus => 0x21
  | .setpoint => 0x30
  | .setpointReply => 0x31
  | .query => 0x40
  | .order => 0x41
  | .result => 0x42

/-- The body lengths the table of R190 allows for a kind. -/
def FrameKind.allowsLength : FrameKind → Nat → Bool
  | .rollCall, n => n == 1
  | .present, n => n == 1
  | .announce, n => n == 11
  | .plantStatus, n => n == 11
  | .setpoint, n => n == 6
  | .setpointReply, n => n == 1 || n == 7
  | .query, n => decide (1 ≤ n) && decide (n ≤ 3)
  | .order, n => decide (1 ≤ n) && decide (n ≤ 3)
  | .result, n => decide (3 ≤ n) && decide (n ≤ 32)

/-- The kind a kind byte names, if R190 assigns it. -/
def FrameKind.ofByte (b : Byte) : Option FrameKind :=
  [FrameKind.rollCall, .present, .announce, .plantStatus, .setpoint, .setpointReply, .query, .order,
    .result].find? fun k => b == byte k.code

/-- The kind of a frame whose form the table of R190 allows and whose source is at most 63; none for
a frame of unknown kind (R164). -/
def Frame.form (f : Frame) : Option FrameKind :=
  match FrameKind.ofByte f.kind with
  | some k => if k.allowsLength f.body.length && decide (f.src.toNat ≤ 63) then some k else none
  | none => none

/-- Whether a frame is well formed and of the kind. -/
def Frame.isKind (f : Frame) (k : FrameKind) : Bool := f.form == some k

/-- The two check sums over covered bytes: A and B start at 0, A becomes A plus the byte and B becomes
B plus the new A, each modulo 255 (R159). -/
def checkSums (covered : List Byte) : Nat × Nat :=
  covered.foldl (fun (a, b) x =>
    let a' := (a + x.toNat) % 255
    (a', (b + a') % 255)) (0, 0)

/-- The lead byte (R189). -/
def leadByte : Byte := 0xC3

/-- The bytes the check covers: destination, source, kind, body length, body (R159). -/
def Frame.covered (f : Frame) : List Byte :=
  f.dest :: f.src :: f.kind :: byte f.body.length :: f.body

/-- A frame as its bytes are sent: lead, covered bytes, A, B (R159). -/
def Frame.bytes (f : Frame) : List Byte :=
  leadByte :: (f.covered ++ [byte (checkSums f.covered).1, byte (checkSums f.covered).2])

/-- What a run of bytes with the lead, the header, the announced body length and the two check bytes
makes: the frame and whether its check bytes match (R161). -/
def parseFrame (bs : List Byte) : Frame × Bool :=
  let f : Frame :=
    { dest := byteAt bs 1, src := byteAt bs 2, kind := byteAt bs 3,
      body := (bs.drop 5).take (nat1 bs 4) }
  let n := nat1 bs 4
  let sums := checkSums ((bs.drop 1).take (4 + n))
  (f, nat1 bs (5 + n) == sums.1 && nat1 bs (6 + n) == sums.2)

/-! ### The bodies of ANNOUNCE and PLANT STATUS (R191) -/

def ZoneRecord.body (r : ZoneRecord) : List Byte :=
  [byte r.wanted.code, byte r.demand, byte r.weight, byte r.qd, byte r.relief,
    flagsByte [r.reliefAvailable, r.flags.tempFault, r.flags.humFault, r.flags.windowOpen,
      r.flags.damperFault, r.flags.plantSilent, r.flags.twoPlants]] ++
  signed2 r.temperature ++ [byte r.humidity] ++ bytes2 r.position

def PhaseFlags.toByte (p : PhaseFlags) : Byte :=
  flagsByte [p.startHeld, p.runHeld, p.defrost, p.frostGuard, p.frostTrip, p.highLimit, p.overlong]

def PlantRecord.body (r : PlantRecord) : List Byte :=
  [byte r.mode.code, r.phases.toByte] ++ bytes2 r.qb ++ bytes2 r.qminEff ++ bytes2 r.qmax ++
  [byte r.kc, byte r.cause.code,
    flagsByte [r.flags.twoPlants, r.flags.coilFault, r.flags.supplyFault]]

/-- A record's body: that of the frame that would announce it. -/
def Record.body : Record → List Byte
  | .zone r => r.body
  | .plant r => r.body

/-- The zone record an ANNOUNCE body is stored as: each number held to its stored range, each flag as
received (R13). -/
def ZoneRecord.ofBody (b : List Byte) : ZoneRecord where
  wanted := WantedMode.ofCode (nat1 b 0)
  demand := clampNat (nat1 b 1) 0 100
  weight := clampNat (nat1 b 2) 1 4
  qd := clampNat (nat1 b 3) 2 80
  relief := clampNat (nat1 b 4) 0 80
  reliefAvailable := flagAt b 5 0
  temperature := clampInt (int2 b 6) (-400) 850
  humidity := clampNat (nat1 b 8) 0 100
  position := clampNat (nat2 b 9) 0 1000
  flags :=
    { tempFault := flagAt b 5 1, humFault := flagAt b 5 2, windowOpen := flagAt b 5 3,
      damperFault := flagAt b 5 4, plantSilent := flagAt b 5 5, twoPlants := flagAt b 5 6 }

/-- The plant record a PLANT STATUS body is stored as (R13). -/
def PlantRecord.ofBody (b : List Byte) : PlantRecord where
  mode := PlantMode.ofCode (nat1 b 0)
  phases :=
    { startHeld := flagAt b 1 0, runHeld := flagAt b 1 1, defrost := flagAt b 1 2,
      frostGuard := flagAt b 1 3, frostTrip := flagAt b 1 4, highLimit := flagAt b 1 5,
      overlong := flagAt b 1 6 }
  qb := clampNat (nat2 b 2) 0 400
  qminEff := clampNat (nat2 b 4) 0 400
  qmax := clampNat (nat2 b 6) 20 400
  kc := clampNat (nat1 b 8) 0 100
  cause := LockoutCause.ofCode (nat1 b 9)
  flags := { twoPlants := flagAt b 10 0, coilFault := flagAt b 10 1, supplyFault := flagAt b 10 2 }

end Sys2Proof.Machine
end

