-- ==== Sys2Proof/Machine/Ops.lean ====
section
/-! DEFINITION. The operations every block shares: updating one block of the state, timers, and
taking an event. -/

namespace Sys2Proof.Machine

/-! ### One block of the state at a time -/

def State.onMember (s : State) (f : Membership → Membership) : State := { s with member := f s.member }
def State.onSensing (s : State) (f : Sensing → Sensing) : State := { s with sensing := f s.sensing }
def State.onDemand (s : State) (f : Demand → Demand) : State := { s with demand := f s.demand }
def State.onShare (s : State) (f : Share → Share) : State := { s with share := f s.share }
def State.onDrive (s : State) (f : Drive → Drive) : State := { s with drive := f s.drive }
def State.onPlant (s : State) (f : Plant → Plant) : State := { s with plant := f s.plant }
def State.onLine (s : State) (f : Line → Line) : State := { s with line := f s.line }
def State.onResponder (s : State) (f : Responder → Responder) : State :=
  { s with responder := f s.responder }

/-! ### Timers -/

/-- A timer started afresh at its full length (R104). -/
def State.timer (s : State) (lengthMs : Nat) : Timer := .running (s.now + lengthMs)

def Timer.isRunning : Timer → Bool
  | .running _ => true
  | .stopped => false
  | .expired => false

/-- The whole seconds left on a running timer (log entry 18). -/
def Timer.secondsLeft (now : Nat) : Timer → Nat
  | .running due => (due - now) / 1000
  | .stopped => 0
  | .expired => 0

/-- The part's clock brought to a moment, if it is not there yet (log entry 2). -/
def State.reach (s : State) (moment : Nat) : State := { s with now := max s.now moment }

/-- An event is taken: while the reset is asserted no block runs and nothing happens (R184). -/
def State.take (s : State) (act : State → State) : State := if s.held then s else act s

/-- A timer's expiry is taken. It occurs only while the timer runs: the expiry of a timer that has
been stopped does not occur (R6, R31), and then nothing happens (log entry 2). -/
def State.takeExpiry (s : State) (t : Timer) (act : State → State) : State :=
  s.take fun s =>
    match t with
    | .running due => act (s.reach due)
    | .stopped => s
    | .expired => s

/-- The state does one more thing if the condition holds. -/
def State.andIf (s : State) (c : Bool) (act : State → State) : State := if c then act s else s

end Sys2Proof.Machine
end

