-- ==== Sys2Proof/Machine/Flags.lean ====
section
/-! DEFINITION. The conditions, flags, records and output lines that are views of the state: worked
out from what their owners hold whenever they are read. -/

namespace Sys2Proof.Machine

/-! ### The peer table (R12, R19 to R21) -/

def Entry.role (e : Entry) : Role :=
  match e.record with
  | .zone _ => .zone
  | .plant _ => .plant

/-- An entry's zone record if it is a FRESH ZONE entry (R70, R110). -/
def Entry.freshZone (e : Entry) : Option ZoneRecord :=
  match e.standing, e.record with
  | .fresh, .zone r => some r
  | _, _ => none

/-- An entry's plant record if it is a FRESH PLANT entry (R19). -/
def Entry.freshPlant (e : Entry) : Option PlantRecord :=
  match e.standing, e.record with
  | .fresh, .plant r => some r
  | _, _ => none

/-- The FRESH PLANT entries' addresses. -/
def freshPlants (table : List Entry) : List Nat :=
  (table.filter fun e => e.freshPlant.isSome).map Entry.address

/-- The lowest of a list of addresses. -/
def lowest : List Nat → Option Nat
  | [] => none
  | a :: rest =>
    match lowest rest with
    | some b => some (min a b)
    | none => some a

/-- The chain an address belongs to (R12). -/
def chainOf (address : Nat) : Nat := address % 8

/-- Chain k of the table, head first. -/
def chain (table : List Entry) (k : Nat) : List Entry :=
  table.filter fun e => chainOf e.address == k

def findEntry (table : List Entry) (address : Nat) : Option Entry :=
  table.find? fun e => e.address == address

/-- The plant-silent condition: zone role, from the end of START, no FRESH PLANT entry in the table
(R21). DESIGN CHOICE, log entry 25: it is read from the table also while a RESTART's emptying waits on a
snapshot, when the followed plant is none already (R11) and the table may still hold a FRESH PLANT. -/
def State.plantSilent (s : State) : Bool :=
  s.role == .zone && s.member.station != .start && (freshPlants s.member.table).isEmpty

/-- The two-plants condition: two FRESH PLANT entries in the zone role, one in the plant role
(R20). -/
def State.twoPlants (s : State) : Bool :=
  match s.role with
  | .zone => decide (2 ≤ (freshPlants s.member.table).length)
  | .plant => decide (1 ≤ (freshPlants s.member.table).length)

/-! ### Channels and contacts (R30 to R33) -/

/-- USABLE: seeded and not in fault (R30). -/
def Channel.usable (c : Channel) : Bool := c.filtered.isSome && !c.fault

/-- The value a frame carries for a channel: the filtered value, 0 where it offers none (R30). -/
def Channel.offered (c : Channel) : Int := c.filtered.getD 0

/-- A contact in use: WINDOW and OCCUPANCY when configured, the plant's contacts always (02, 2.3). -/
def State.contactInUse (s : State) (c : Contact) : Bool :=
  match s.role, c with
  | .zone, .first => s.cfg.windowUse
  | .zone, .second => s.cfg.occupancyUse
  | .plant, _ => true

/-- Whether a level means a contact's active state: open for WINDOW and OCCUPANCY, closed for
DEFROST ACTIVE and OUTDOOR FAULT (R31). -/
def levelActive (role : Role) (level : Level) : Bool :=
  match role, level with
  | .zone, .opened => true
  | .zone, .closed => false
  | .plant, .opened => false
  | .plant, .closed => true

def Sensing.contact (g : Sensing) : Contact → ContactInput
  | .first => g.contact1
  | .second => g.contact2

/-- WINDOW is in use and its debounced state is open (R54). -/
def State.windowOpen (s : State) : Bool :=
  s.role == .zone && s.contactInUse .first && s.sensing.contact1.active

/-- OCCUPANCY is in use and its debounced state is vacant (R43). -/
def State.vacant (s : State) : Bool :=
  s.role == .zone && s.contactInUse .second && s.sensing.contact2.active

/-- The debounced DEFROST ACTIVE state (R32). -/
def State.defrostActive (s : State) : Bool := s.role == .plant && s.sensing.contact1.active

/-- The debounced OUTDOOR FAULT state (R32). -/
def State.outdoorFault (s : State) : Bool := s.role == .plant && s.sensing.contact2.active

/-! ### The records a station announces (R53, R54, R137) -/

def DriveState.homed : DriveState → Bool
  | .idle => true
  | .moving => true
  | .unhomed => false
  | .homing => false
  | .fault => false

/-- The zone flags of the own record (R54). -/
def State.zoneFlags (s : State) : ZoneFlags where
  tempFault := s.sensing.first.fault
  humFault := s.sensing.second.fault
  windowOpen := s.windowOpen
  damperFault := s.drive.state == .fault
  plantSilent := s.plantSilent
  twoPlants := s.twoPlants

/-- The damper position of the own record, permille of travel, 0 while the count is not valid (R53,
R102). -/
def Drive.permille (d : Drive) : Nat :=
  match d.count with
  | some p => p * 1000 / 1200
  | none => 0

/-- The zone's own record, each field from its source (R53). -/
def State.zoneRecord (s : State) : ZoneRecord where
  wanted := s.demand.wanted
  demand := s.demand.demand
  weight := s.cfg.weight
  qd := s.cfg.qd
  relief := s.cfg.relief
  reliefAvailable := s.demand.reliefAvailable
  temperature := s.sensing.first.offered
  humidity := (s.sensing.second.offered / 10).toNat
  position := s.drive.permille
  flags := s.zoneFlags

/-- The phase flags (R12, R115, R142). -/
def Plant.phases (p : Plant) : PhaseFlags where
  startHeld := p.arb.startHeld
  runHeld := p.arb.runHeld
  defrost := p.prot.defrost
  frostGuard := p.prot.guard
  frostTrip := p.prot.trip
  highLimit := p.prot.highLimit
  overlong := p.prot.overlongFlag

/-- The other flags of the plant record (R137). -/
def State.plantFlags (s : State) : PlantFlags where
  twoPlants := s.twoPlants
  coilFault := s.sensing.first.fault
  supplyFault := s.sensing.second.fault

/-- The plant record (R125, R137). -/
def State.plantRecord (s : State) : PlantRecord where
  mode := s.plant.arb.mode
  phases := s.plant.phases
  qb := s.plant.air.qb
  qminEff := s.plant.air.qminEff
  qmax := s.cfg.qmax
  kc := s.plant.air.kc
  cause := s.plant.arb.cause
  flags := s.plantFlags

/-! ### The alert line (R183) -/

/-- The eight alert conditions, in the order of R183. -/
def State.alertConditions (s : State) : List Bool :=
  [s.drive.state == .fault,
    s.sensing.first.fault || s.sensing.second.fault,
    s.member.station == .duplicate,
    s.plantSilent,
    s.role == .plant && s.plant.arb.mode == .lockout,
    s.line.stuck,
    s.configFault,
    s.twoPlants]

/-- Whether the alert line is driven low: a condition that the mask selects holds. It is released
from the moment the reset is taken until START ends (R183), and while the part is held (R184). -/
def State.alertDriven (s : State) : Bool :=
  !s.held && s.member.station != .start &&
    (s.alertConditions.zipIdx.any fun (c, i) => c && s.cfg.alertMask.getLsbD i)

/-! ### The motor phases (R85, R103) -/

/-- What the four phase outputs STP_A..STP_D show: all off, or the pattern at the place held (R85,
R103). -/
def Drive.phaseOutputs (d : Drive) : BitVec 4 :=
  if d.phasesOn then Config.phasePattern d.phasePlace else 0

end Sys2Proof.Machine
end

