-- ==== Sys2Proof/Machine/Queue.lean ====
section
/-! DEFINITION. The transmit queue (R3, R165, R166), the wait period (R167), and what the service
responder is told when a RESULT leaves the queue (R179, R181, R182). -/

namespace Sys2Proof.Machine

/-- Applies f to the first element that p holds of. -/
def updateFirst {α : Type} (p : α → Bool) (f : α → α) : List α → List α
  | [] => []
  | a :: rest => if p a then f a :: rest else a :: updateFirst p f rest

/-! ### Kinds (R3, R165) -/

/-- The urgency class (R165). -/
def TxKind.urgency : TxKind → Nat
  | .rollCall => 0
  | .present => 0
  | .plantStatus => 1
  | .announce => 2
  | .setpointReply => 2
  | .result => 3

/-- The kinds that hold the periodic position (R165). -/
def TxKind.periodic : TxKind → Bool
  | .rollCall => true
  | .announce => true
  | .plantStatus => true
  | .present => false
  | .setpointReply => false
  | .result => false

def TxKind.frameKind : TxKind → FrameKind
  | .rollCall => .rollCall
  | .announce => .announce
  | .plantStatus => .plantStatus
  | .present => .present
  | .setpointReply => .setpointReply
  | .result => .result

/-- Whether a frame of the kind may be queued in the station state: in ONLINE every kind but the ROLL
CALL, in CLAIM the ROLL CALL, elsewhere none (R3). -/
def Station.allows : Station → TxKind → Bool
  | .online, .rollCall => false
  | .online, _ => true
  | .claim, .rollCall => true
  | .claim, _ => false
  | .start, _ => false
  | .unaddressed, _ => false
  | .listen, _ => false
  | .duplicate, _ => false

/-! ### The head, the entry in flight, the frame sent -/

/-- The entry whose attempt is in flight. -/
def Line.sending (l : Line) : Option TxEntry := l.queue.find? TxEntry.inFlight

/-- The head while no attempt is in flight: the lowest urgency class, and in it the entry placed
first (R166). -/
def Line.head (l : Line) : Option TxEntry :=
  match lowest (l.queue.map fun e => e.kind.urgency) with
  | some c => l.queue.find? fun e => e.kind.urgency == c
  | none => none

/-- The frame an entry is sent as, its body built (R159). -/
def State.frameOf (s : State) (e : TxEntry) : Frame :=
  { dest := byte e.dest, src := byte s.address, kind := byte e.kind.frameKind.code,
    body := e.body.getD [] }

/-- The body a periodic frame is given when its attempt starts (R168): the own record (R59, R137), or
the role for a ROLL CALL (R5). -/
def State.periodicBody (s : State) : TxKind → List Byte
  | .announce => s.zoneRecord.body
  | .plantStatus => s.plantRecord.body
  | .rollCall => [byte (roleCode s.role)]
  | .present => []
  | .setpointReply => []
  | .result => []

/-! ### The wait period (R167) -/

/-- The gap the line must have been idle for before an attempt of a class starts, in bit-times:
(3 + class) byte-times plus the extra (R167). -/
def gapBits (urgency extra : Nat) : Nat := 10 * (3 + urgency + extra)

/-- A wait period begins if the queue holds a frame, no attempt is in flight, the line is idle and
not stuck: the station draws once from its sequence (R167). -/
def State.beginWait (s : State) : State :=
  if !s.line.queue.isEmpty && s.line.sending.isNone && s.line.idle && !s.line.stuck then
    s.onLine fun l =>
      { l with
        sequence := (5 * l.sequence + 1) % 256
        wait := some (((5 * l.sequence + 1) % 256) / 32) }
  else s

/-! ### Placing (R165) -/

/-- An entry takes its place behind the others; the first entry of a queue on an idle line begins a
wait period (R167). -/
def State.placeEntry (s : State) (e : TxEntry) : State :=
  let placed := s.onLine fun l => { l with queue := l.queue ++ [e] }
  if s.line.queue.isEmpty then placed.beginWait else placed

/-- A block asks to place the periodic frame of a kind: refused where the state does not allow it;
where a periodic frame is held already, nothing changes (an unsent one is replaced by an equal one,
and with an attempt in flight the request is refused) (R3, R165). -/
def State.placePeriodic (s : State) (kind : TxKind) (dest : Nat) : State :=
  if !s.member.station.allows kind then s
  else if s.line.queue.any fun e => e.kind.periodic then s
  else s.placeEntry
    { kind, dest, body := none, lost := 0, inFlight := false, use := .plain }

/-- A block asks to place a reply; the Bool says whether it was placed. Outside the states that allow
it the request is refused without effect; with three replies held it is dropped, with latch and
counter (R3, R165). -/
def State.placeReply (s : State) (kind : TxKind) (dest : Nat) (body : List Byte)
    (use : ResultUse) : State × Bool :=
  if !s.member.station.allows kind then (s, false)
  else if 3 ≤ (s.line.queue.filter fun e => !e.kind.periodic).length then
    (s.onLine fun l =>
      { l with
        latches := { l.latches with replyDropped := true }
        counters := { l.counters with replyDropped := saturate l.counters.replyDropped 255 } },
      false)
  else
    (s.placeEntry { kind, dest, body := some body, lost := 0, inFlight := false, use }, true)

/-! ### What leaves the queue (R168, R170, R3) -/

/-- How an entry left the queue. -/
inductive Departure where
  | sent
  | crowded
  | removed
  deriving DecidableEq, Repr

/-- RESTART orders none of whose answering RESULTs is still awaited are handed on to the membership
unit (R179, R182). -/
def State.handRestarts (s : State) : State :=
  let ready := s.responder.waiting.filter fun w => !w.done && !w.dumpEnd
  { s with
    member := { s.member with restartsHanded := s.member.restartsHanded + ready.length }
    responder :=
      { s.responder with waiting := s.responder.waiting.filter fun w => w.done || w.dumpEnd } }

/-- The dump ends; no RESTART order waits on it any longer (R181, R182). -/
def State.endDump (s : State) : State :=
  (s.onResponder fun r =>
    { dump := none, waiting := r.waiting.map fun w => { w with dumpEnd := false } }).handRestarts

/-- A dump RESULT has left the queue. With LAST the dump ends. Sent complete, the next RESULT is due.
Discarded as crowded, the next is due only if the abort mark is set, and otherwise the dump ends, as
it does when R3 removes the RESULT (R181, R182). -/
def State.dumpResultLeft (s : State) (last : Bool) (how : Departure) : State :=
  match s.responder.dump with
  | none => s
  | some d =>
    let goesOn :=
      match how with
      | .sent => !last
      | .crowded => !last && d.abort
      | .removed => false
    if goesOn then s.onResponder fun r => { r with dump := some { d with nextDue := true } }
    else s.endDump

/-- The service responder is told that a RESULT of its own has left the queue. -/
def State.resultLeft (s : State) (use : ResultUse) (how : Departure) : State :=
  match use with
  | .plain => s
  | .restart =>
    (s.onResponder fun r =>
      { r with
        waiting := updateFirst RestartWait.done (fun w => { w with done := false }) r.waiting
        }).handRestarts
  | .dump last => s.dumpResultLeft last how

/-- On entering a state, every queued frame the state does not allow is removed. A transmission of
one of them stops at once: the line is idle from then, and the assembler abandons the frame without
a latch (R3, R168). The removal counts as no lost attempt. -/
def State.purgeQueue (s : State) : State :=
  let gone := s.line.queue.filter fun e => !s.member.station.allows e.kind
  let stopped := gone.any TxEntry.inFlight
  let s1 := s.onLine fun l =>
    { l with
      queue := l.queue.filter fun e => s.member.station.allows e.kind
      idle := l.idle || stopped
      echoed := if stopped then 0 else l.echoed
      assembly := if stopped then [] else l.assembly }
  let s2 := if s1.line.queue.isEmpty then s1.onLine fun l => { l with wait := none }
    else if stopped then s1.beginWait else s1
  gone.foldl (fun t e => t.resultLeft e.use .removed) s2

end Sys2Proof.Machine
end

