-- ==== Sys2Proof/Machine/Announce.lean ====
section
/-! DEFINITION. The timing of the station's own announcements: the ANNOUNCE of a zone (R55 to R58) and
the PLANT STATUS of a plant (R138 to R141). The two follow one pattern with their own lengths. -/

namespace Sys2Proof.Machine

/-- The kind of the station's own announcement. -/
def ownKind : Role → TxKind
  | .zone => .announce
  | .plant => .plantStatus

/-- The length of the period timer: 15 s (R55), 5 s (R138). -/
def periodMs : Role → Nat
  | .zone => Config.announcePeriodMs
  | .plant => Config.statusPeriodMs

/-- The length of the spacing timer: 2 s (R57), 1 s (R140). -/
def spacingMs : Role → Nat
  | .zone => Config.announceSpacingMs
  | .plant => Config.statusSpacingMs

/-- The change of the last announced figure that prompts: D by 10 (R56), Qb by 4 (R139). -/
def promptStep : Role → Nat
  | .zone => 10
  | .plant => 4

def State.announcer (s : State) : Announcer :=
  match s.role with
  | .zone => s.demand.announcer
  | .plant => s.plant.announcer

def State.onAnnouncer (s : State) (f : Announcer → Announcer) : State :=
  match s.role with
  | .zone => s.onDemand fun d => { d with announcer := f d.announcer }
  | .plant => s.onPlant fun p => { p with announcer := f p.announcer }

/-- An attempt of the own announcement is in flight. -/
def State.announcing (s : State) : Bool :=
  s.line.queue.any fun e => e.kind == ownKind s.role && e.inFlight

/-- The own announcement holds the periodic position with no attempt in flight. -/
def State.announcementWaits (s : State) : Bool :=
  s.line.queue.any fun e => e.kind == ownKind s.role && !e.inFlight

def State.markWaiting (s : State) : State := s.onAnnouncer fun a => { a with waiting := true }

/-- The own announcement is placed, or replaces an unsent one, and the period timer starts again
(R55, R138). With an attempt in flight nothing is placed and the prompt-waiting mark is set. -/
def State.placeAnnouncement (s : State) : State :=
  if s.announcing then s.markWaiting
  else (s.placePeriodic (ownKind s.role) 0).onAnnouncer fun a =>
    { a with period := s.timer (periodMs s.role) }

/-- A prompt cause is acted on according to the announcement state (R57, R140); outside ONLINE there
are no prompt causes (R56, R139). -/
def State.promptCause (s : State) : State :=
  if s.member.station != .online then s
  else if s.announcementWaits then s
  else if s.announcing then s.markWaiting
  else if s.announcer.spacing.isRunning then s.markWaiting
  else s.placeAnnouncement

/-- A figure differs from the last announced one by enough to prompt; there is no test while none has
been announced (R56, R139). -/
def State.movedFrom (s : State) (figure : Nat) : Bool :=
  match s.announcer.last with
  | some a => decide (promptStep s.role ≤ max figure a - min figure a)
  | none => false

/-- The prompt cause of the flags their owners report: any zone flag (R56), or the two-plants,
coil-sensor-fault or supply-sensor-fault flag (R139), differs from what it was in `old`. -/
def State.promptFlags (s old : State) : State :=
  match s.role with
  | .zone => s.andIf (s.zoneFlags != old.zoneFlags) State.promptCause
  | .plant => s.andIf (s.plantFlags != old.plantFlags) State.promptCause

/-- The period timer expires: the announcement is placed, or with an attempt in flight the mark is
set; the timer starts again (R55, R138). -/
def State.periodExpired (s : State) : State :=
  s.placeAnnouncement.onAnnouncer fun a => { a with period := s.timer (periodMs s.role) }

/-- The spacing timer expires: the announcement is placed if the mark is set (R57, R140). -/
def State.spacingExpired (s : State) : State :=
  let s1 := s.onAnnouncer fun a => { a with spacing := .stopped }
  s1.andIf s1.announcer.waiting State.placeAnnouncement

/-- The own announcement's transmission completes: the last announced figure becomes the one its body
carried, and the spacing timer starts (R57, R140). -/
def State.announcementSent (s : State) (body : List Byte) : State :=
  s.onAnnouncer fun a =>
    { a with
      last := some (match s.role with
        | .zone => nat1 body 1
        | .plant => nat2 body 2)
      spacing := s.timer (spacingMs s.role) }

end Sys2Proof.Machine
end

