-- ==== Sys2Proof/Machine/Reckoning.lean ====
section
/-! DEFINITION. Triggers of the share reckoning and of the plant reckoning, the beginning of a
reckoning with its snapshot and noted items, and the occupation of the table (R23, R60 to R64, R106
to R108). -/

namespace Sys2Proof.Machine

/-- A zone record as a reckoning counts it (R70). -/
def ZoneRecord.counted (r : ZoneRecord) : Counted :=
  { wanted := r.wanted, demand := r.demand, weight := r.weight, qd := r.qd, relief := r.relief,
    reliefAvailable := r.reliefAvailable }

/-- The followed plant with its record, as the table holds it (R19). -/
def State.followedRecord (s : State) : Option PlantRecord :=
  match s.member.followed with
  | none => none
  | some a =>
    match findEntry s.member.table a with
    | none => none
    | some e =>
      match e.record with
      | .plant r => some r
      | .zone _ => none

/-- What a share reckoning copies and notes when it begins (R23, R64). In the plant role the plant's
own record stands where a zone has the followed plant's (R62, R67). -/
def State.shareSnapshot (s : State) : ShareSnapshot where
  entries := s.member.table
  online := s.member.station == .online
  silent := s.plantSilent
  own := s.zoneRecord
  followed := s.member.followed
  source :=
    match s.role with
    | .zone => s.followedRecord
    | .plant => some s.plantRecord

/-- The phase a reckoning begins in, and its length: a snapshot of 1 ms for each entry, or, over an
empty table, the computation at once (R23, R64). -/
def firstPhase (entries : Nat) : Phase × Nat :=
  if entries == 0 then (.computing, Config.computationMs) else (.snapshot, entries)

def State.beginShare (s : State) : State :=
  s.onShare fun u =>
    { u with
      flight := some
        { phase := (firstPhase s.member.table.length).1
          due := s.now + (firstPhase s.member.table.length).2
          snapshot := s.shareSnapshot } }

/-- A trigger reaches the share unit: it begins a reckoning, or sets the pending mark of the one in
flight (R63). -/
def State.shareTrigger (s : State) : State :=
  match s.share.flight with
  | none => s.beginShare
  | some _ => s.onShare fun u => { u with mark := true }

/-- What a plant reckoning copies and notes when it begins (R23, R108, R131, R143). -/
def State.plantSnapshot (s : State) : PlantFlight where
  phase := (firstPhase s.member.table.length).1
  due := s.now + (firstPhase s.member.table.length).2
  entries := s.member.table
  own := s.plantRecord
  online := s.member.station == .online
  arb := s.plant.arb
  prot := s.plant.prot
  outdoorFault := s.outdoorFault
  defrostActive := s.defrostActive
  coilUsable := s.sensing.first.usable
  supplyUsable := s.sensing.second.usable
  void := false

def State.beginPlant (s : State) : State :=
  s.onPlant fun p => { p with flight := some s.plantSnapshot }

/-- A trigger reaches the plant sequencer, which exists in the plant role only (R107). -/
def State.plantTrigger (s : State) : State :=
  match s.role with
  | .zone => s
  | .plant =>
    match s.plant.flight with
    | none => s.beginPlant
    | some _ => s.onPlant fun p => { p with mark := true }

/-- The membership-change event: a trigger of both units, told independently (R18). -/
def State.membershipChange (s : State) : State := s.shareTrigger.plantTrigger

/-- The table is occupied while a snapshot is in progress, in the plant role until the later of the
two ends (R23). -/
def State.occupied (s : State) : Bool :=
  (match s.share.flight with
    | some f => f.phase == .snapshot
    | none => false) ||
  (match s.plant.flight with
    | some f => f.phase == .snapshot
    | none => false)

end Sys2Proof.Machine
end

