-- ==== Sys2Proof/Machine/Drive.lean ====
section
/-! DEFINITION. The damper drive (05): homing, moves, targets, stalls, slips, faults and the hold. The
operations read the end-stop at `drive.endStop`, where the event that reaches the drive has put the
level it saw. -/

namespace Sys2Proof.Machine

/-- The end-stop's level as the event saw it. -/
def State.senseEndStop (s : State) (level : Bool) : State :=
  s.onDrive fun d => { d with endStop := level }

/-- The next step of a homing or a move is due in 5 ms (R87, R90). -/
def State.armStep (s : State) : State := s.onDrive fun d => { d with step := s.timer Config.stepMs }

/-- One more completed move, wrapping from 255 to 0, where the rehome-due mark is set (R91). -/
def Drive.countMove (d : Drive) : Drive :=
  { d with
    completed := wrap256 d.completed
    rehomeDue := d.rehomeDue || wrap256 d.completed == 0
    stallCount := 0
    retry := false }

/-- IDLE is entered: the last pattern is held for 200 ms, also where a run that took no step ends there
with the phases off (R103). -/
def State.enterIdle (s : State) : State :=
  s.onDrive fun d =>
    { d with
      state := .idle, step := .stopped, settle := s.timer Config.settleMs, phasesOn := true }

/-- MOVING is entered (R88, R89). -/
def State.enterMoving (s : State) : State :=
  (s.onDrive fun d => { d with state := .moving, settle := .stopped }).armStep

/-- A homing run ends with the end-stop found: the count is 0 and the drive acts on its pending target
(R88). The move of a retry to 0 is complete, its close confirmed. A closing step no longer has its
pattern held from the alignment. -/
def State.homingFound (s : State) : State :=
  let s1 := s.onDrive fun d => { d with count := some 0, sinceStop := 0, aligned := false }
  if s.drive.target == 0 then
    (s1.onDrive fun d => if d.retry then d.countMove else d).enterIdle
  else
    (s1.onDrive fun d =>
      { d with stallCount := if d.retry then d.stallCount else 0, retry := false }).enterMoving

/-- HOMING is entered, as a retry or not. The end-stop is read before any step: if it is sensed the
run ends at once (R86, R87). -/
def State.enterHoming (s : State) (retry : Bool) : State :=
  let s1 := (s.onDrive fun d =>
    { d with
      state := .homing, count := none, stuckSteps := 0, rehomeDue := false, retry,
      homingSteps := 0, settle := .stopped }).armStep
  if s.drive.endStop then s1.homingFound else s1

/-- FAULT is entered with a cause: the phases are off, the count is not valid, the target stays
pending (R96, R103). -/
def State.enterFault (s : State) (cause : FaultCause) : State :=
  s.onDrive fun d =>
    { d with
      state := .fault, cause, count := none, retry := false, phasesOn := false, step := .stopped,
      settle := .stopped }

/-- A move is complete (R91); a close to 0 that the end-stop has not confirmed within the last 24 steps
sets CLOSED NOT CONFIRMED and raises a HOME request (R93). -/
def State.completeMove (s : State) : State :=
  let s1 := (s.onDrive Drive.countMove).enterIdle
  if s.drive.target == 0 && decide (24 < s.drive.sinceStop) then
    (s1.onDrive fun d => { d with closedNotConfirmed := true }).enterHoming false
  else s1

/-- The drive takes a new target according to its state (R89). A hold is not asked about here. -/
def State.takeTarget (s : State) (t : Nat) : State :=
  let s1 := s.onDrive fun d => { d with target := t }
  match s.drive.state with
  | .unhomed => s1
  | .homing => s1
  | .fault => s1
  | .idle =>
    if s.drive.count == some t then s1
    else if s.drive.rehomeDue then s1.enterHoming false
    else (s1.onDrive fun d => { d with stallCount := 0 }).enterMoving
  | .moving => if s.drive.count == some t then s1.completeMove else s1

/-- FAULT is left for HOMING (R96). -/
def State.leaveFault (s : State) : State :=
  (s.onDrive fun d => { d with cause := .none, stallCount := 0, retry := false }).enterHoming false

/-- A HOME request that is not a stall, according to the drive's state (R86, R101). -/
def State.homeRequest (s : State) : State :=
  match s.drive.state with
  | .unhomed => s
  | .homing => s
  | .idle => s.enterHoming false
  | .moving => (s.onDrive fun d => { d with stallCount := 0 }).enterHoming false
  | .fault => s.leaveFault

/-- The hold ends and the drive takes the share unit's standing position (R99). -/
def State.endHold (s : State) : State :=
  (s.onDrive fun d => { d with hold := .stopped }).takeTarget s.share.standing

/-- The share unit hands the drive a target, which is ignored while a hold is in effect (R79, R89). -/
def State.handTarget (s : State) (t : Nat) : State :=
  if s.drive.hold.isRunning then s else s.takeTarget t

/-! ### Steps -/

/-- A step is issued: the phase pattern advances one place, back for a closing step. The first closing
step after the alignment takes the pattern that the alignment held (R85, R103; log entry 24). -/
def Drive.issue (d : Drive) (opening : Bool) : Drive :=
  { d with
    phasePlace :=
      if opening then d.phasePlace + 1 else if d.aligned then d.phasePlace else d.phasePlace - 1
    phasesOn := true
    aligned := false }

/-- A step of a homing run: a stall, the end-stop, or the 1320th step ends it (R87). DESIGN CHOICE, log
entry 31: it leaves the steps since the end-stop was last sensed as they were; R90 counts them for a
move, and R87 and R88 name them for a run only where the end-stop is found. -/
def State.homingStep (s : State) (stall : Bool) : State :=
  let s1 := s.onDrive fun d =>
    { d.issue false with homingSteps := d.homingSteps + 1 }
  if stall then
    if s.drive.retry then (s1.onDrive fun d => { d with stallCount := 2 }).enterFault .stall
    else s1.enterFault .homeFail
  else if s.drive.endStop then s1.homingFound
  else if 1320 ≤ s.drive.homingSteps + 1 then s1.enterFault .homeFail
  else s1.armStep

/-- A stall in MOVING: the first makes a retry homing, the second a FAULT (R95). -/
def State.moveStalled (s : State) : State :=
  if s.drive.stallCount == 0 then (s.onDrive fun d => { d with stallCount := 1 }).enterHoming true
  else (s.onDrive fun d => { d with stallCount := 2 }).enterFault .stall

/-- Stages 2 and 3 of a closing step from count p: the count falls, the end-stop corrects it, and a
count above 24 at the stop is a slip (R90, R92). -/
def Drive.closingStep (d : Drive) (p : Nat) : Drive :=
  if d.endStop then
    { d with
      count := some 0, sinceStop := 0, stuckSteps := 0
      slip := d.slip || decide (24 < p - 1)
      slipCount := if 24 < p - 1 then saturate d.slipCount 255 else d.slipCount }
  else { d with count := some (p - 1), sinceStop := saturate d.sinceStop 1320, stuckSteps := 0 }

/-- Stages 2 and 3 of an opening step from count p (R90, R94). -/
def Drive.openingStep (d : Drive) (p : Nat) : Drive :=
  if d.endStop then
    { d with count := some (p + 1), sinceStop := 0, stuckSteps := d.stuckSteps + 1 }
  else { d with count := some (p + 1), sinceStop := saturate d.sinceStop 1320, stuckSteps := 0 }

/-- A step of a move from count p, judged in its four stages (R90). -/
def State.moveStep (s : State) (p : Nat) (stall : Bool) : State :=
  let opening := decide (p < s.drive.target)
  let s1 := (s.onDrive fun d => d.issue opening).armStep
  if stall then s1.moveStalled
  else
    let s2 := s1.onDrive fun d => if opening then d.openingStep p else d.closingStep p
    if 24 ≤ s2.drive.stuckSteps then s2.enterFault .endStopStuck
    else if s2.drive.count == some s2.drive.target then s2.completeMove
    else s2

/-- The drive's part of a CLEAR request: its latches, its hold, its FAULT (R100). -/
def State.clearDrive (s : State) : State :=
  let s1 := s.onDrive fun d => { d with slip := false, closedNotConfirmed := false }
  let s2 := s1.andIf s1.drive.hold.isRunning State.endHold
  s2.andIf (s2.drive.state == .fault) State.leaveFault

/-- A HOLD order with a target within 0..1200: the hold comes into effect and the target is taken
(R98). -/
def State.startHold (s : State) (t : Nat) : State :=
  (s.onDrive fun d => { d with hold := s.timer Config.holdMs }).takeTarget t

end Sys2Proof.Machine
end

