-- ==== Sys2Proof/Machine/Arbitration.lean ====
section
/-! DEFINITION. Plant mode arbitration (06): the weighted sums, the tests of a plant reckoning, and
what each outcome does to the arbitration state. -/

namespace Sys2Proof.Machine

/-! ### Zones served and their claims (R69, R71), shared with the share unit -/

/-- A zone is served under the running mode (R69). -/
def served (mode : PlantMode) (wanted : WantedMode) : Bool :=
  match mode, wanted with
  | .heat, .heat => true
  | .cool, .cool => true
  | .cool, .dry => true
  | .dry, .cool => true
  | .dry, .dry => true
  | _, _ => false

/-- The claim of a counted zone (R71). -/
def claim (mode : PlantMode) (z : Counted) : Nat :=
  if served mode z.wanted then ceilDiv (z.qd * max z.demand 30) 100 else 0

/-- The zones of the FRESH ZONE entries of a snapshot (R70). -/
def freshZones (entries : List Entry) : List Counted :=
  entries.filterMap fun e => e.freshZone.map ZoneRecord.counted

/-- A sum over counted zones. -/
def sumOver (zones : List Counted) (f : Counted → Nat) : Nat := (zones.map f).sum

/-! ### The weighted sums (R110) -/

/-- The sum of w × D over the FRESH ZONE entries that want a mode (R110). -/
def weightedSum (entries : List Entry) (mode : WantedMode) : Nat :=
  sumOver ((freshZones entries).filter fun z => z.wanted == mode) fun z => z.weight * z.demand

/-- The sums of a reckoning: Hs, Cs, Ys; K is Cs + Ys. -/
structure Sums where
  hs : Nat
  cs : Nat
  ys : Nat
  deriving DecidableEq, Repr

def Sums.k (w : Sums) : Nat := w.cs + w.ys

def sumsOf (entries : List Entry) : Sums :=
  { hs := weightedSum entries .heat, cs := weightedSum entries .cool, ys := weightedSum entries .dry }

/-! ### The tests (R109, R111, R113, R114, R120, R122) -/

/-- What a reckoning decides. -/
inductive Verdict where
  /-- The plant state stays, with the two held flags as given. -/
  | stay (startHeld runHeld : Bool)
  /-- A mode is entered from IDLE or CHANGEOVER (R112). -/
  | enter (mode : PlantMode)
  /-- COOL and DRY are switched (R114). -/
  | switch (mode : PlantMode)
  /-- A running state is left for IDLE (R113). -/
  | stop
  /-- R119. -/
  | changeover
  /-- R121, with the cause LOCKOUT shows. -/
  | lockout (cause : LockoutCause)
  /-- LOCKOUT stays, its cause worked out again (R122). -/
  | remain (cause : LockoutCause)
  /-- LOCKOUT is left for IDLE (R122). -/
  | release
  /-- CHANGEOVER is left for IDLE (R120). -/
  | rest
  deriving DecidableEq, Repr

/-- The start threshold (R111). -/
def startThreshold : Nat := 20

/-- The fixed difference of a switch between COOL and DRY (R114). -/
def switchMargin : Nat := 40

/-- The target of R111. -/
def startTarget (w : Sums) : Option PlantMode :=
  if startThreshold ≤ w.hs && decide (w.k ≤ w.hs) then some .heat
  else if startThreshold ≤ w.k && decide (w.ys ≤ w.cs) then some .cool
  else if startThreshold ≤ w.k && decide (w.cs < w.ys) then some .dry
  else none

/-- The lockout cause: what still stands in the way, or the cause last shown (R122). -/
def lockoutCause (outdoorFault frostLockout : Bool) (shown : LockoutCause) : LockoutCause :=
  if outdoorFault then .outdoorFault else if frostLockout then .frostLockout else shown

/-- In IDLE (R111). -/
def judgeIdle (a : Arbitration) (w : Sums) : Verdict :=
  match startTarget w with
  | none => .stay false false
  | some m => if a.minOff.isRunning then .stay true false else .enter m

/-- Demand gone on the running side (R113, R114, tests 2 and 3). -/
def judgeGone (a : Arbitration) : Verdict :=
  match a.minOn with
  | .expired => .stop
  | .running _ => .stay false true
  | .stopped => .stay false a.runHeld

/-- In HEAT (R113). -/
def judgeHeat (margin : Nat) (a : Arbitration) (w : Sums) : Verdict :=
  if w.hs + margin < w.k && a.dwell == .expired then .changeover
  else if w.hs == 0 then judgeGone a
  else .stay false false

/-- In COOL and DRY (R114). -/
def judgeCool (margin : Nat) (a : Arbitration) (w : Sums) : Verdict :=
  if w.k + margin < w.hs && a.dwell == .expired then .changeover
  else if w.k == 0 then judgeGone a
  else if a.mode == .cool && decide (w.cs + switchMargin < w.ys) then .switch .dry
  else if a.mode == .dry && decide (w.ys + switchMargin < w.cs) then .switch .cool
  else .stay false false

/-- In CHANGEOVER: nothing while the pause runs; then as from IDLE with min-off taken as expired
(R119, R120). -/
def judgeChangeover (a : Arbitration) (w : Sums) : Verdict :=
  if a.pause.isRunning then .stay false false
  else match startTarget w with
    | none => .rest
    | some m => .enter m

/-- In LOCKOUT (R122). -/
def judgeLockout (outdoorFault : Bool) (a : Arbitration) : Verdict :=
  if !outdoorFault && !a.frostLockout && a.minOff == .expired then .release
  else .remain (lockoutCause outdoorFault a.frostLockout a.cause)

/-- The tests of a plant reckoning, in their order (R109). -/
def judge (margin : Nat) (f : PlantFlight) (w : Sums) : Verdict :=
  if !f.online then .stay false false
  else if f.arb.mode != .lockout && (f.outdoorFault || f.arb.frostLockout) then
    .lockout (lockoutCause f.outdoorFault f.arb.frostLockout f.arb.cause)
  else match f.arb.mode with
    | .lockout => judgeLockout f.outdoorFault f.arb
    | .idle => judgeIdle f.arb w
    | .heat => judgeHeat margin f.arb w
    | .cool => judgeCool margin f.arb w
    | .dry => judgeCool margin f.arb w
    | .changeover => judgeChangeover f.arb w

/-! ### The outcome (R112, R113, R119, R121, R122, R123) -/

/-- The arbitration state after a verdict; `start` starts a timer of a length, `dwellMs` is the
configured dwell. -/
def Arbitration.apply (a : Arbitration) (v : Verdict) (start : Nat → Timer) (dwellMs : Nat) :
    Arbitration :=
  match v with
  | .stay startHeld runHeld => { a with startHeld, runHeld }
  | .enter mode =>
    { a with
      mode, startHeld := false, runHeld := false, minOn := start Config.minOnMs,
      dwell := start dwellMs, pause := .stopped, minOff := .stopped, valve := mode == .heat }
  | .switch mode => { a with mode, startHeld := false, runHeld := false, valve := false }
  | .stop =>
    { a with
      mode := .idle, startHeld := false, runHeld := false, minOn := .stopped, dwell := .stopped,
      minOff := start Config.minOffMs, valve := false }
  | .changeover =>
    { a with
      mode := .changeover, startHeld := false, runHeld := false, minOn := .stopped,
      dwell := .stopped, pause := start Config.pauseMs, minOff := start Config.minOffMs,
      valve := false }
  | .lockout cause =>
    { a with
      mode := .lockout, startHeld := false, runHeld := false, minOn := .stopped, dwell := .stopped,
      pause := .stopped, minOff := start Config.minOffMs, valve := false, cause }
  | .remain cause => { a with cause }
  | .release =>
    { a with mode := .idle, startHeld := false, runHeld := false, valve := false, cause := .none }
  | .rest => { a with mode := .idle, startHeld := false, runHeld := false, valve := false }

/-- Leaving ONLINE forces IDLE whatever the state was (R124). -/
def Arbitration.force (a : Arbitration) (start : Nat → Timer) : Arbitration :=
  { a with
    mode := .idle, startHeld := false, runHeld := false, minOn := .stopped, dwell := .stopped,
    pause := .stopped, minOff := start Config.minOffMs, valve := false, cause := .none }

end Sys2Proof.Machine
end

