-- ==== Sys2Proof/Machine/ShareFormulas.lean ====
section
/-! DEFINITION. The arithmetic of the share reckoning (04, sections 4.2 to 4.7): cases, claims,
scaling, pool, relief, the characteristic-table lookup and the bypass. Pure functions of a snapshot
and the configuration. -/

namespace Sys2Proof.Machine

/-- The scaled claim (R72). -/
def scaledClaim (qb claims c : Nat) : Nat := if qb < claims then c * qb / claims else c

/-- The pool (R73). -/
def pool (qb claims : Nat) : Nat := qb - min claims qb

/-- A counted zone is in the relief set (R74). -/
def inRelief (mode : PlantMode) (z : Counted) : Bool :=
  decide (0 < z.relief) && z.reliefAvailable && (z.wanted == .none || served mode z.wanted)

/-- A counted zone's relief capacity if it is in the relief set. -/
def reliefOf (mode : PlantMode) (z : Counted) : Nat := if inRelief mode z then z.relief else 0

/-- A counted zone's relief share (R75). -/
def reliefShare (mode : PlantMode) (pool reliefSum : Nat) (z : Counted) : Nat :=
  if !inRelief mode z || pool == 0 then 0
  else if reliefSum ≤ pool then z.relief
  else pool * z.relief / reliefSum

/-- An airflow as a fraction of a design airflow, permille, at most 1000 (R76, R82). -/
def fractionOf (airflow design : Nat) : Nat := min 1000 (airflow * 1000 / design)

/-- The step position of a fraction by a characteristic table (R77). -/
def lookup (table : List Nat) (fraction : Nat) : Nat :=
  let k := min 7 (fraction / 125)
  let rem := fraction - 125 * k
  let low := table.getD k 0
  low + (table.getD (k + 1) 0 - low) * rem / 125

/-- The sums of a formula case over the zones it counts (R72 to R74). -/
structure Terms where
  mode : PlantMode
  qb : Nat
  claims : Nat
  pool : Nat
  reliefSum : Nat
  deriving DecidableEq, Repr

def termsOf (mode : PlantMode) (qb : Nat) (zones : List Counted) : Terms where
  mode := mode
  qb := qb
  claims := sumOver zones (claim mode)
  pool := pool qb (sumOver zones (claim mode))
  reliefSum := sumOver zones (reliefOf mode)

/-- A counted zone's scaled claim in a formula case. -/
def Terms.scaled (t : Terms) (z : Counted) : Nat := scaledClaim t.qb t.claims (claim t.mode z)

/-- A counted zone's relief share in a formula case. -/
def Terms.relief (t : Terms) (z : Counted) : Nat := reliefShare t.mode t.pool t.reliefSum z

/-- A zone's target airflow: its scaled claim plus its relief share (R76). -/
def Terms.target (t : Terms) (z : Counted) : Nat := t.scaled z + t.relief z

/-- The airflow the plant counts as delivered to a zone (R81). -/
def Terms.delivered (t : Terms) (z : Counted) : Nat := min z.qd (t.target z)

def Terms.figures (t : Terms) (counted : Nat) (r : RoleShare) : ShareFigures :=
  { qbUsed := t.qb, counted, claims := t.claims, pool := t.pool, reliefSum := t.reliefSum,
    roleShare := r }

/-- The zone's case and computed position (R78). -/
def zonePosition (c : Config.Product) (served : Bool) (target fraction : Nat) : ShareCase × Nat :=
  if target == 0 then (.closed, c.posMin)
  else (if served then .served else .relief, max c.posMin (lookup c.table fraction))

/-- The zone role's formula case (R69 to R78). -/
def zoneFormulas (c : Config.Product) (s : ShareSnapshot) (r : PlantRecord) : ShareRecord :=
  let z := s.own.counted
  let zones := z :: freshZones s.entries
  let t := termsOf r.mode r.qb zones
  let q := t.target z
  let own : OwnShare :=
    { served := served r.mode z.wanted, claim := claim r.mode z, scaled := t.scaled z,
      relief := t.relief z, target := q, fraction := fractionOf q z.qd }
  { case := (zonePosition c own.served q own.fraction).1
    cause := none
    entries := s.entries.length
    followed := s.followed
    mode := some r.mode
    figures := some (t.figures zones.length (.own own))
    position := some (zonePosition c own.served q own.fraction).2
    handed := none }

/-- The bypass fraction and target (R82). -/
def bypassTarget (c : Config.Product) (unplaced : Nat) : Option Nat × Nat :=
  if c.qbp == 0 then (none, 0)
  else if unplaced == 0 then (some 0, 0)
  else (some (fractionOf unplaced c.qbp), lookup c.table (fractionOf unplaced c.qbp))

/-- The plant role's formula case (R67, R81, R82). -/
def plantFormulas (c : Config.Product) (s : ShareSnapshot) (r : PlantRecord) : ShareRecord :=
  let zones := freshZones s.entries
  let t := termsOf r.mode r.qb zones
  let delivered := sumOver zones t.delivered
  let u := t.qb - delivered
  let b := bypassTarget c u
  { case := if b.2 == 0 then .closed else .relief
    cause := none
    entries := s.entries.length
    followed := none
    mode := some r.mode
    figures := some (t.figures zones.length (.bypass { delivered, unplaced := u, fraction := b.1 }))
    position := some b.2
    handed := none }

/-- FALLBACK, at the fallback position (R66, R67). -/
def fallbackRecord (c : Config.Product) (s : ShareSnapshot) (cause : ShareCause) : ShareRecord :=
  { case := .fallback, cause := some cause, entries := s.entries.length, followed := none,
    mode := none, figures := none, position := some c.fallback, handed := none }

/-- HOLD: no computed position (R66, R67). -/
def holdRecord (s : ShareSnapshot) (r : PlantRecord) (cause : ShareCause) : ShareRecord :=
  { case := .hold, cause := some cause, entries := s.entries.length, followed := s.followed,
    mode := some r.mode, figures := none, position := none, handed := none }

/-- The outcome of a share reckoning: the first test of R66 (zone) or R67 (plant) that holds. Whether
the position is handed is decided after it. -/
def shareOutcome (role : Role) (c : Config.Product) (s : ShareSnapshot) : ShareRecord :=
  if !s.online then fallbackRecord c s .notOnline
  else match s.silent, s.source with
    | true, _ => fallbackRecord c s .plantSilent
    | false, none => fallbackRecord c s .plantSilent
    | false, some r =>
      if r.mode == .idle then holdRecord s r .idle
      else if r.mode == .lockout then holdRecord s r .lockout
      else if r.phases.defrost then holdRecord s r .defrost
      else match role with
        | .zone => zoneFormulas c s r
        | .plant => plantFormulas c s r

/-- The deadband of R79: by 12 steps or more, or an end of travel the target is not at. -/
def handedOver (position target : Nat) : Bool :=
  decide (12 ≤ max position target - min position target) ||
    ((position == 0 || position == Config.fullyOpen) && position != target)

/-- The unplaced airflow of a record, absent under FALLBACK and HOLD (R65). -/
def ShareRecord.unplaced (r : ShareRecord) : Option Nat :=
  match r.figures with
  | none => none
  | some f =>
    match f.roleShare with
    | .own _ => none
    | .bypass b => some b.unplaced

end Sys2Proof.Machine
end

