-- ==== Sys2Proof/Machine/DriveCommands.lean ====
section
/-! DEFINITION. The commands of the share unit and of the damper drive (04, 05). -/

namespace Sys2Proof.Machine

/-- The outcome of a reckoning with its hand-over noted (R65, R79). -/
def State.shareResult (s : State) (f : ShareFlight) : ShareRecord :=
  let out := shareOutcome s.role s.cfg f.snapshot
  { out with handed := out.position.map fun p => handedOver p s.drive.target }

/-- In the plant role the unplaced airflow is handed to the plant sequencer (R65). -/
def State.handUnplaced (s : State) (u : Option Nat) : State :=
  match s.role with
  | .zone => s
  | .plant => s.onPlant fun p => { p with unplaced := u }

/-- A share reckoning ends: its outcome is stored, its position may be handed to the drive, and the
pending mark begins a new one (R63, R65). -/
def State.endShare (s : State) (f : ShareFlight) : State :=
  let out := s.shareResult f
  let s1 := (s.onShare fun u =>
    { flight := none, mark := false, record := out, standing := out.position.getD u.standing
      }).handUnplaced out.unplaced
  let s2 := match out.position, out.handed with
    | some p, some true => s1.handTarget p
    | _, _ => s1
  s2.andIf s.share.mark State.beginShare

/-- A share reckoning that is computing ends at its due moment; in any other state there is none to
end. -/
def State.shareEnds (s : State) (endStop : Bool) : State :=
  match s.share.flight with
  | none => s
  | some f =>
    if f.phase == .computing then
      ((((s.senseEndStop endStop).reach f.due).endShare f).promptFlags s)
    else s

/-- SHARE_RECKONING_END (R65). -/
def execShareReckoningEnd (endStop : Bool) (s : State) : Outcome :=
  .next <| s.take fun t => t.shareEnds endStop

/-- ALIGNMENT_END: UNHOMED is left for HOMING (R85, R86). -/
def execAlignmentEnd (endStop : Bool) (s : State) : Outcome :=
  .next <| s.takeExpiry s.drive.alignment fun t =>
    t.andIf (t.drive.state == .unhomed) fun u =>
      (((u.senseEndStop endStop).onDrive fun d => { d with alignment := .stopped }).enterHoming
        false).promptFlags u

/-- HOMING_STEP (R87, R88). -/
def execHomingStep (stall endStop : Bool) (s : State) : Outcome :=
  .next <| s.takeExpiry s.drive.step fun t =>
    t.andIf (t.drive.state == .homing) fun u =>
      ((u.senseEndStop endStop).homingStep stall).promptFlags u

/-- A step of a move, if the drive is MOVING toward a target it is not at. -/
def State.moves (s : State) (stall endStop : Bool) : State :=
  match s.drive.state, s.drive.count with
  | .moving, some p =>
    if p == s.drive.target then s
    else ((s.senseEndStop endStop).moveStep p stall).promptFlags s
  | _, _ => s

/-- MOVE_STEP (R90 to R95). -/
def execMoveStep (stall endStop : Bool) (s : State) : Outcome :=
  .next <| s.takeExpiry s.drive.step fun t => t.moves stall endStop

/-- SETTLE_END: the phases are turned off (R103). -/
def execSettleEnd (s : State) : Outcome :=
  .next <| s.takeExpiry s.drive.settle fun t =>
    t.onDrive fun d => { d with settle := .stopped, phasesOn := false }

/-- HOLD_TIMER_EXPIRY: the hold ends (R99). -/
def execHoldTimerExpiry (endStop : Bool) (s : State) : Outcome :=
  .next <| s.takeExpiry s.drive.hold fun t => (t.senseEndStop endStop).endHold.promptFlags t

end Sys2Proof.Machine
end

