-- ==== Sys2Proof/Machine/Protection.lean ====
section
/-! DEFINITION. Coil protection and defrost (08): the four conditions of the temperatures, and the
phases worked at the end of a plant reckoning. -/

namespace Sys2Proof.Machine

/-- The four conditions, worked at a hand-over from the coil and supply-air channels (R143). -/
def Protection.conditions (p : Protection) (coil supply : Channel) : Protection :=
  let c := coil.filtered.getD 0
  let t := supply.filtered.getD 0
  { p with
    coilCold := coil.usable && (decide (c ≤ 10) || (p.coilCold && decide (c < 40)))
    coilFrozen := coil.usable && decide (c ≤ -20)
    coilThawed := coil.usable && decide (50 ≤ c)
    supplyHot := supply.usable && (decide (550 ≤ t) || (p.supplyHot && decide (500 < t))) }

/-- COOL and DRY, the cool side (06, 6.1). -/
def PlantMode.coolSide : PlantMode → Bool
  | .cool => true
  | .dry => true
  | .idle => false
  | .heat => false
  | .changeover => false
  | .lockout => false

/-- The frost guard is set under the state that stands (R144). -/
def guardSet (mode : PlantMode) (f : PlantFlight) : Bool :=
  mode.coolSide && (f.prot.coilCold || !f.coilUsable)

/-- A frost trip begins (R145, R146). -/
def tripBegins (mode : PlantMode) (f : PlantFlight) : Bool :=
  mode.coolSide && f.prot.frostTimer == .expired && f.prot.coilFrozen && f.prot.guard && !f.prot.trip

/-- A frost trip in progress ends by its timer and the thaw (R147). -/
def tripEnds (f : PlantFlight) : Bool :=
  f.prot.trip && f.prot.tripTimer == .expired && f.prot.coilThawed

/-- A frost trip is in progress when the reckoning has ended (R146, R147, R149). -/
def tripStands (mode : PlantMode) (f : PlantFlight) : Bool :=
  mode.coolSide && (tripBegins mode f || (f.prot.trip && !tripEnds f))

/-- The frost timer when the reckoning has ended (R145, R149). -/
def frostTimerAfter (mode : PlantMode) (f : PlantFlight) (start : Nat → Timer) (now : Timer) :
    Timer :=
  if !guardSet mode f || !f.prot.coilFrozen || tripStands mode f then .stopped
  else match f.prot.frostTimer with
    | .stopped => start Config.frostMs
    | .running _ => now
    | .expired => .stopped

/-- A defrost phase is in progress when the reckoning has ended: HEAT with DEFROST ACTIVE noted
active (R152, R154). -/
def defrostStands (mode : PlantMode) (f : PlantFlight) : Bool := mode == .heat && f.defrostActive

/-- A defrost phase begins (R152). -/
def defrostBegins (mode : PlantMode) (f : PlantFlight) : Bool :=
  defrostStands mode f && !f.prot.defrost

/-- The high limit is set (R150). -/
def highLimitSet (mode : PlantMode) (f : PlantFlight) : Bool :=
  mode == .heat && !defrostStands mode f && f.prot.supplyHot

/-- The phases after a reckoning that leaves `mode` standing; `capacity` is what a defrost phase that
begins here holds (R142, R144 to R154). -/
def Protection.work (p : Protection) (f : PlantFlight) (mode : PlantMode) (start : Nat → Timer)
    (capacity : Nat) : Protection :=
  { p with
    guard := guardSet mode f
    frostTimer := frostTimerAfter mode f start p.frostTimer
    trip := tripStands mode f
    tripTimer :=
      if tripBegins mode f then start Config.tripMs
      else if tripStands mode f then p.tripTimer else .stopped
    tripCount := if tripBegins mode f then saturate p.tripCount 3 else p.tripCount
    highLimit := highLimitSet mode f
    boost := if highLimitSet mode f then p.boost else 0
    defrost := defrostStands mode f
    overlong :=
      if defrostBegins mode f then start Config.overlongMs
      else if defrostStands mode f then p.overlong else .stopped
    overlongFlag :=
      defrostStands mode f && f.prot.defrost && (f.prot.overlongFlag || f.prot.overlong == .expired)
    heldCapacity :=
      if defrostBegins mode f then some capacity
      else if defrostStands mode f then p.heldCapacity else none }

/-- Leaving ONLINE ends every phase at once (R124, R149, R150, R155). -/
def Protection.force (p : Protection) : Protection :=
  { p with
    guard := false, frostTimer := .stopped, trip := false, tripTimer := .stopped,
    highLimit := false, boost := 0, defrost := false, overlong := .stopped, overlongFlag := false,
    heldCapacity := none }

end Sys2Proof.Machine
end

