-- ==== Sys2Proof/Machine/Airflow.lean ====
section
/-! DEFINITION. Plant airflow and capacity (07): the blower target, the slew, the capacity demand and
the equipment outputs. -/

namespace Sys2Proof.Machine

/-- The effective minimum airflow (R127). -/
def effectiveMinimum (c : Config.Product) (mode : PlantMode) (guard : Bool) : Nat :=
  match mode with
  | .heat => c.qminHeat
  | .cool => if guard then min c.qmax (ceilDiv (c.qminCool * 125) 100) else c.qminCool
  | .dry => if guard then min c.qmax (ceilDiv (c.qminDry * 125) 100) else c.qminDry
  | .idle => 0
  | .changeover => 0
  | .lockout => 0

/-- The plant's own sum of claims (R128). -/
def ownClaims (entries : List Entry) (mode : PlantMode) : Nat :=
  sumOver (freshZones entries) (claim mode)

/-- The target raised by the high-limit boost (R130). -/
def boosted (c : Config.Product) (qt boost : Nat) : Nat := min c.qmax (qt + qt * boost / 10)

/-- The blower target for a state and its phases (R129; log entry 35 for a frost trip after the guard has
cleared, where the worked example of 08 shows another figure). `boost` is 0 unless the high limit is set. -/
def blowerTarget (c : Config.Product) (online : Bool) (mode : PlantMode) (ph : PhaseFlags)
    (sp boost : Nat) : Nat :=
  let low := effectiveMinimum c mode ph.frostGuard
  match online, mode with
  | false, _ => 0
  | true, .idle => 0
  | true, .lockout => 0
  | true, .changeover => c.qpurge
  | true, .heat =>
    if ph.defrost then (if ph.overlong then c.qminHeat else 0)
    else if ph.runHeld then boosted c low boost
    else boosted c (clampNat sp low c.qmax) boost
  | true, .cool =>
    if ph.frostTrip || ph.runHeld then low else clampNat sp low c.qmax
  | true, .dry =>
    if ph.frostTrip || ph.runHeld then low else clampNat (sp * 70 / 100) low c.qmax

/-- The weighted mean demand over the served zones (R133). -/
def meanDemand (entries : List Entry) (mode : PlantMode) : Nat :=
  let zones := (freshZones entries).filter fun z => served mode z.wanted
  if zones.isEmpty then 0
  else sumOver zones (fun z => z.weight * z.demand) / sumOver zones Counted.weight

/-- The base capacity (R133). -/
def baseCapacity (c : Config.Product) (dw : Nat) : Nat := c.kmin + (100 - c.kmin) * dw / 100

/-- The capacity demand of a running state outside its special cases (R134, case 4). `heatCap`: the
high limit is on, or the supply channel is not USABLE (R151). -/
def runningCapacity (c : Config.Product) (mode : PlantMode) (guard heatCap : Bool) (dw : Nat) : Nat :=
  let base := baseCapacity c dw
  match mode with
  | .heat => if heatCap then min base 60 else base
  | .cool => if guard then min base 40 else base
  | .dry => if guard then min (min 100 (base + 15)) 40 else min 100 (base + 15)
  | .idle => 0
  | .changeover => 0
  | .lockout => 0

/-- The capacity demand (R134). -/
def capacityDemand (c : Config.Product) (online : Bool) (mode : PlantMode) (ph : PhaseFlags)
    (heldCapacity : Option Nat) (heatCap : Bool) (dw : Nat) : Nat :=
  if !online || mode == .idle || mode == .changeover || mode == .lockout || ph.startHeld ||
      ph.frostTrip then 0
  else if ph.defrost then heldCapacity.getD 0
  else if ph.runHeld then c.kmin
  else runningCapacity c mode ph.frostGuard heatCap dw

/-- The fan demand output (R135). -/
def fanDemand (c : Config.Product) (qb : Nat) : Nat := qb * 100 / c.qmax

/-- A blower airflow demand takes effect at the fan output (R131, R132, R135). -/
def Air.setQb (a : Air) (c : Config.Product) (qb : Nat) : Air :=
  { a with qb, fanOut := fanDemand c qb }

/-- A capacity demand takes effect at the capacity output and the compressor call (R135). -/
def Air.setKc (a : Air) (kc : Nat) : Air :=
  { a with kc, capOut := kc, call := decide (0 < kc) }

/-- One slew step of Qb toward Qt (R131). -/
def slewed (slew qt qb : Nat) : Nat :=
  if qb < qt then min qt (qb + slew) else if qt < qb then max qt (qb - slew) else qb

/-- The figures of a reckoning's end: Qt, Qmin_eff, Sp, Dw and Kc worked afresh, and Qb dropped to 0
with a Qt of 0 (R126, R132). -/
def Air.work (a : Air) (c : Config.Product) (online : Bool) (mode : PlantMode) (ph : PhaseFlags)
    (heldCapacity : Option Nat) (heatCap : Bool) (boost : Nat) (entries : List Entry) : Air :=
  let sp := ownClaims entries mode
  let dw := meanDemand entries mode
  let qt := blowerTarget c online mode ph sp boost
  let a1 := { a with qt, qminEff := effectiveMinimum c mode ph.frostGuard, sp, dw }
  let a2 := a1.setKc (capacityDemand c online mode ph heldCapacity heatCap dw)
  if qt == 0 then a2.setQb c 0 else a2

/-- Leaving ONLINE: Qt, Qb and Kc become 0 and the outputs go off (R132). -/
def Air.force (a : Air) (c : Config.Product) : Air := (({ a with qt := 0 }).setQb c 0).setKc 0

/-- The sequencer tells the share unit of a change of the plant's own state, defrost phase or Qb since
`old` (R62, R125, R136). -/
def State.tellShare (s : State) (old : Plant) : State :=
  s.andIf (s.plant.arb.mode != old.arb.mode || s.plant.prot.defrost != old.prot.defrost ||
    s.plant.air.qb != old.air.qb) State.shareTrigger

/-- The sequencer tells the PLANT STATUS builder of a change of the plant state, the lockout cause or
a phase flag, or of a Qb changed far enough, since `old` (R125, R139). -/
def State.tellStatus (s : State) (old : Plant) : State :=
  s.andIf (s.plant.arb.mode != old.arb.mode || s.plant.arb.cause != old.arb.cause ||
    s.plant.phases != old.phases ||
    (s.plant.air.qb != old.air.qb && s.movedFrom s.plant.air.qb)) State.promptCause

/-- The plant timer's slew step, with what it tells (R131). -/
def State.slewStep (s : State) : State :=
  let qb := slewed s.cfg.slew s.plant.air.qt s.plant.air.qb
  let s1 := s.onPlant fun p => { p with air := if qb == p.air.qb then p.air else p.air.setQb s.cfg qb }
  (s1.tellShare s.plant).tellStatus s.plant

/-- The high-limit boost counts a plant timer expiry (R150). -/
def State.boostStep (s : State) : State :=
  s.andIf s.plant.prot.highLimit fun s =>
    s.onPlant fun p => { p with prot := { p.prot with boost := saturate p.prot.boost 5 } }

/-- The sequencer's part of leaving ONLINE: IDLE is forced without a reckoning, the phases end, the
outputs go off, and the share unit is told (R124, R132). -/
def State.forcePlantIdle (s : State) : State :=
  let s1 := s.onPlant fun p =>
    { p with
      arb := p.arb.force s.timer
      prot := p.prot.force
      air := p.air.force s.cfg }
  s1.tellShare s.plant

end Sys2Proof.Machine
end

