-- ==== Sys2Proof/Machine/Demand.lean ====
section
/-! DEFINITION. Room sensing (02, 2.1 to 2.3), the demand unit (03, 3.1 to 3.3) and the setpoint store
(02, 2.4). -/

namespace Sys2Proof.Machine

/-! ### The analogue channels (R26 to R29) -/

/-- The plausible raw range of a channel (02, 2.1). -/
def plausible (role : Role) (first : Bool) (v : Int) : Bool :=
  match role, first with
  | .zone, true => decide (0 ≤ v) && decide (v ≤ 600)
  | .zone, false => decide (0 ≤ v) && decide (v ≤ 1000)
  | .plant, _ => decide (-300 ≤ v) && decide (v ≤ 850)

/-- The value of a good sample, none for a bad one (R26). -/
def goodSample (role : Role) (first : Bool) : Conversion → Option Int
  | .value v => if plausible role first v then some v else none
  | .openCircuit => none
  | .shortCircuit => none

/-- A good sample of value v (R26, R27, R29). -/
def Channel.good1 (c : Channel) (v : Int) : Channel :=
  let good := saturate c.good 3
  if c.fault then
    if good == 3 then { filtered := some v, fault := false, bad := 0, good }
    else { c with bad := 0, good }
  else
    { c with
      bad := 0, good
      filtered := some (match c.filtered with
        | none => v
        | some f => f + (v - f).tdiv 4) }

/-- A bad sample (R26, R28). -/
def Channel.bad1 (c : Channel) : Channel :=
  { c with
    good := 0
    bad := saturate c.bad 5
    fault := c.fault || saturate c.bad 5 == 5 }

/-- A channel after a conversion result. -/
def Channel.sample (c : Channel) (role : Role) (first : Bool) (r : Conversion) : Channel :=
  match goodSample role first r with
  | some v => c.good1 v
  | none => c.bad1

/-! ### The effective setpoints and the demand figures (R43 to R46) -/

/-- The setback in force: none while the room is occupied (R43). -/
def State.setbackNow (s : State) : Int := if s.demand.unoccupied then s.cfg.setback else 0

/-- SPh_eff, by the OCCUPANCY state the last recompute took (log entry 7). -/
def State.heatEff (s : State) : Int := s.setpoints.figures.heat - s.setbackNow

/-- SPc_eff. -/
def State.coolEff (s : State) : Int := s.setpoints.figures.cool + s.setbackNow

/-- A demand from a number of tenths beyond an effective setpoint: × 100 / PB, truncated, held within
0..100 (R44). -/
def demandOf (beyond : Int) (band : Nat) : Nat := (clampInt ((beyond * 100).tdiv band) 0 100).toNat

/-- The three demands from the channels as handed over (R44, R46). -/
def State.formDemands (s : State) : State :=
  let tf := s.sensing.first.filtered.getD 0
  let rhf := s.sensing.second.filtered.getD 0
  s.onDemand fun d =>
    { d with
      dHeat := if s.sensing.first.usable then demandOf (s.heatEff - tf) s.cfg.band else 0
      dCool := if s.sensing.first.usable then demandOf (tf - s.coolEff) s.cfg.band else 0
      dDry :=
        if s.sensing.second.usable then
          (clampInt (rhf - 10 * s.setpoints.figures.humidity) 0 100).toNat
        else 0 }

/-! ### The wanted-mode machine (R47 to R51) -/

/-- Entry into DRY: D_dry ≥ 20, humidity USABLE, Tf ≥ SPh_eff + 10 (R48, R49). -/
def State.dryEntry (s : State) : Bool :=
  decide (20 ≤ s.demand.dDry) && s.sensing.second.usable &&
    decide (s.heatEff + 10 ≤ s.sensing.first.filtered.getD 0)

/-- Exit from DRY (R50, test 2). -/
def State.dryExit (s : State) : Bool :=
  s.demand.dDry == 0 || !s.sensing.second.usable ||
    decide (s.sensing.first.filtered.getD 0 < s.heatEff + 5)

/-- Suppression: the temperature channel is not USABLE, or the window is open (R47). -/
def State.suppressed (s : State) : Bool := !s.sensing.first.usable || s.windowOpen

/-- The wanted mode after an evaluation: at most one transition (R47 to R50). -/
def State.wantedNext (s : State) : WantedMode :=
  if s.suppressed then .none
  else match s.demand.wanted with
    | .none =>
      if 10 ≤ s.demand.dHeat then .heat
      else if 10 ≤ s.demand.dCool then .cool
      else if s.dryEntry then .dry
      else .none
    | .heat => if s.demand.dHeat == 0 then .none else .heat
    | .cool =>
      if 0 < s.demand.dCool then .cool
      else if s.dryEntry then .dry
      else .none
    | .dry =>
      if 10 ≤ s.demand.dCool then .cool
      else if s.dryExit then .none
      else .dry

/-- The figure of a wanted mode (R51). -/
def Demand.figure (d : Demand) : WantedMode → Nat
  | .none => 0
  | .heat => d.dHeat
  | .cool => d.dCool
  | .dry => d.dDry

/-- Relief is available while the window is shut and the temperature channel is USABLE (R52). -/
def State.reliefNow (s : State) : Bool := !s.windowOpen && s.sensing.first.usable

/-- The wanted-mode machine is evaluated, D and the relief-available flag are set, and what changed
since `old` raises share trigger 1 (R51) and the prompt causes of R56. -/
def State.evaluate (s old : State) : State :=
  let w := s.wantedNext
  let s1 := s.onDemand fun d =>
    { d with wanted := w, demand := d.figure w, reliefAvailable := s.reliefNow }
  let modeChanged := w != old.demand.wanted
  let reliefChanged := s1.demand.reliefAvailable != old.demand.reliefAvailable
  let s2 := s1.andIf (modeChanged || reliefChanged || s1.demand.demand != old.demand.demand)
    State.shareTrigger
  s2.andIf (modeChanged || reliefChanged || s2.movedFrom s2.demand.demand) State.promptCause

/-- A demand recompute: the OCCUPANCY state is taken, the demands are formed, the machine is evaluated
(R43, R44, R46, R47). -/
def State.recompute (s old : State) : State :=
  ((s.onDemand fun d => { d with unoccupied := s.vacant }).formDemands).evaluate old

/-! ### Hand-over and contacts (R30 to R32) -/

/-- What a hand-over can change for the plant sequencer, one by one: the four protection conditions and
the usability of the two channels (R30, R143). -/
def State.conditionChanges (s old : State) : List Bool :=
  [s.plant.prot.coilCold != old.plant.prot.coilCold,
    s.plant.prot.coilFrozen != old.plant.prot.coilFrozen,
    s.plant.prot.coilThawed != old.plant.prot.coilThawed,
    s.plant.prot.supplyHot != old.plant.prot.supplyHot,
    s.sensing.first.usable != old.sensing.first.usable,
    s.sensing.second.usable != old.sensing.second.usable]

/-- Each change among several at one event is a plant reckoning trigger of its own, told in turn: with
no reckoning in flight the first begins one and a second sets its pending mark (R30, R107; log entry
27). -/
def State.plantTriggers (s : State) (changes : List Bool) : State :=
  changes.foldl (fun t changed => t.andIf changed State.plantTrigger) s

/-- Both channels worked, they are handed to their users together: the zone recomputes its demands;
in the plant the protection conditions are worked, and each change of one of them or of a channel's
usability is a plant reckoning trigger (R25, R30, R143). A changed fault flag may prompt (R56, R139). -/
def State.handOver (s old : State) : State :=
  match s.role with
  | .zone => (s.recompute old).promptFlags old
  | .plant =>
    let s1 := s.onPlant fun p =>
      { p with prot := p.prot.conditions s.sensing.first s.sensing.second }
    (s1.plantTriggers (s1.conditionChanges old)).promptFlags old

def State.sampleChannels (s : State) (a b : Conversion) : State :=
  s.onSensing fun g =>
    { g with first := g.first.sample s.role true a, second := g.second.sample s.role false b }

def State.onContact (s : State) (c : Contact) (f : ContactInput → ContactInput) : State :=
  match c with
  | .first => s.onSensing fun g => { g with contact1 := f g.contact1 }
  | .second => s.onSensing fun g => { g with contact2 := f g.contact2 }

/-- The debounce timer runs exactly while the level disagrees with the debounced state: it starts at
2 s when the level comes to disagree, and stops when it agrees again (R31, R33). -/
def State.debounceAgain (s : State) (c : Contact) : State :=
  s.onContact c fun x =>
    { x with
      debounce :=
        if levelActive s.role x.level != x.active then s.timer Config.debounceMs else .stopped }

/-- A contact's level changes. Contacts are debounced from the end of START, and only if in use (R31,
R33). -/
def State.levelChange (s : State) (c : Contact) (level : Level) : State :=
  if (s.sensing.contact c).level == level then s
  else
    let s1 := s.onContact c fun x => { x with level }
    s1.andIf (s.member.station != .start && s.contactInUse c) fun t => t.debounceAgain c

/-- A changed debounced state is handed to the blocks that use it (R32). WINDOW goes to the demand
unit, which evaluates without a recompute, and to the share unit as trigger 5; DEFROST ACTIVE going
active outside HEAT is counted as ignored (R155), and both plant contacts are plant reckoning
triggers. -/
def State.contactChanged (s old : State) (c : Contact) : State :=
  match s.role, c with
  | .zone, .first => ((s.evaluate old).shareTrigger).promptFlags old
  | .zone, .second => s
  | .plant, .first =>
    (s.andIf (s.defrostActive && s.plant.arb.mode != .heat) fun t =>
      t.onPlant fun p =>
        { p with prot := { p.prot with ignored := saturate p.prot.ignored 255 } }).plantTrigger
  | .plant, .second => s.plantTrigger

/-- A debounce timer expires: the debounced state becomes what the level shows, the change latch is
set, and the change is handed on (R31, R32). -/
def State.debounced (s : State) (c : Contact) : State :=
  (s.onContact c fun x =>
    { x with active := levelActive s.role x.level, debounce := .stopped, changed := true
      }).contactChanged s c

/-! ### The setpoint store (R34 to R41) -/

/-- The marks of a SETPOINT REPLY (R41). -/
structure SetpointMarks where
  heatClamped : Bool
  coolClamped : Bool
  humidityClamped : Bool
  heatPushed : Bool
  coolPushed : Bool
  deriving DecidableEq, Repr

/-- A field of a SETPOINT body: none for the unchanged marker −32768 (R190). -/
def setpointField (body : List Byte) (i : Nat) : Option Int :=
  if int2 body i == -32768 then none else some (int2 body i)

/-- The range and lock stages for a field that carries a value: the value and whether it was clamped
(R37, R38). -/
def rangeAndLock (v lo hi home : Int) (lock : Bool) (span : Int) : Int × Bool :=
  let ranged := clampInt v lo hi
  let locked := if lock then clampInt ranged (home - span) (home + span) else ranged
  (locked, locked != v)

/-- The first two stages of a field that may carry the unchanged marker (R37). -/
def stageField (v : Option Int) (present lo hi home : Int) (lock : Bool) (span : Int) : Int × Bool :=
  match v with
  | none => (present, false)
  | some x => rangeAndLock x lo hi home lock span

/-- The separation stage: the heat and cool figures, and whether each was pushed (R39). -/
def separate (heatGiven coolGiven : Bool) (heat cool : Int) : (Int × Bool) × (Int × Bool) :=
  if heatGiven && decide (cool < heat + 20) then
    if 320 < heat + 20 then ((300, heat != 300), (320, true)) else ((heat, false), (heat + 20, true))
  else if !heatGiven && coolGiven && decide (cool < heat + 20) then
    if cool - 20 < 100 then ((100, true), (120, cool != 120)) else ((cool - 20, true), (cool, false))
  else ((heat, false), (cool, false))

/-- A SETPOINT's three fields worked through range, lock and separation (R37 to R39). -/
def Setpoints.work (p : Setpoints) (c : Config.Product) (heat cool humidity : Option Int) :
    Figures × SetpointMarks :=
  let h := stageField heat p.figures.heat 100 300 p.home.heat c.panelLock c.lockSpan
  let k := stageField cool p.figures.cool 120 320 p.home.cool c.panelLock c.lockSpan
  let y := stageField humidity p.figures.humidity 35 70 p.home.humidity c.panelLock c.lockSpan
  let q := separate heat.isSome cool.isSome h.1 k.1
  ({ heat := q.1.1, cool := q.2.1, humidity := y.1 },
    { heatClamped := h.2, coolClamped := k.2, humidityClamped := y.2,
      heatPushed := q.1.2, coolPushed := q.2.2 })

/-- The body of a SETPOINT REPLY with code DONE (R41, R191). -/
def replyBody (g : Figures) (m : SetpointMarks) : List Byte :=
  byte ResultCode.done.code :: (signed2 g.heat ++ signed2 g.cool ++ [byte g.humidity.toNat,
    flagsByte [m.heatClamped, m.coolClamped, m.humidityClamped, m.heatPushed, m.coolPushed]])

/-- The home values: the configured figures, SPc raised to SPh + 20 if it is less (R34). -/
def homeFigures (c : Config.Product) : Figures :=
  { heat := c.heat, cool := max c.cool (c.heat + 20), humidity := c.humidity }

/-- Whether a SETPOINT is answered: it was addressed to this station by a source of 1..63 (R36). -/
def Frame.answered (f : Frame) : Bool := f.dest.toNat != 0 && f.src.toNat != 0

/-- A SETPOINT frame is handled: applied in the zone role, with the recompute of R40, and answered
where R36 calls for it (R36, R40, R41). -/
def State.applySetpoint (s : State) (f : Frame) : State :=
  match s.role with
  | .zone =>
    let w := s.setpoints.work s.cfg (setpointField f.body 0) (setpointField f.body 2)
      (setpointField f.body 4)
    let s1 := { s with setpoints := { s.setpoints with figures := w.1 } }
    let s2 := s1.recompute s
    if f.answered then (s2.placeReply .setpointReply f.src.toNat (replyBody w.1 w.2) .plain).1 else s2
  | .plant =>
    if f.answered then
      (s.placeReply .setpointReply f.src.toNat [byte ResultCode.role.code] .plain).1
    else s

end Sys2Proof.Machine
end

