-- ==== Sys2Proof/Machine/PlantReckoning.lean ====
section
/-! DEFINITION. The end of a plant reckoning (R109, R125): transition, phases, figures, what is told,
and the next reckoning. -/

namespace Sys2Proof.Machine

/-- Whether the verdict is the entry of a mode (06, 6.1). -/
def Verdict.entersMode : Verdict → Bool
  | .enter _ => true
  | .stay _ _ => false
  | .switch _ => false
  | .stop => false
  | .changeover => false
  | .lockout _ => false
  | .remain _ => false
  | .release => false
  | .rest => false

def Arbitration.storeSums (a : Arbitration) (w : Sums) : Arbitration :=
  { a with hs := w.hs, cs := w.cs, ys := w.ys }

/-- The capacity a defrost phase that begins at this end holds: the Kc that stood if the plant was in
HEAT already, else the Kc worked for HEAT as though no phase had begun (R152). -/
def capacityToHold (c : Config.Product) (f : PlantFlight) (kc : Nat) : Nat :=
  if f.arb.mode == .heat then kc
  else runningCapacity c .heat false (f.prot.supplyHot || !f.supplyUsable)
    (meanDemand f.entries .heat)

/-- The plant after steps 1 and 2 of a reckoning's end (R125). -/
def Plant.afterReckoning (p : Plant) (f : PlantFlight) (c : Config.Product) (online : Bool)
    (start : Nat → Timer) : Plant :=
  let w := sumsOf f.entries
  let v := judge c.margin f w
  let arb1 := (p.arb.apply v start (1000 * c.dwell)).storeSums w
  let prot0 := if v.entersMode then { p.prot with tripCount := 0 } else p.prot
  let prot1 := prot0.work f arb1.mode start (capacityToHold c f p.air.kc)
  let arb2 := { arb1 with
    frostLockout := arb1.frostLockout || (tripBegins arb1.mode f && prot1.tripCount == 3) }
  let p1 := { p with arb := arb2, prot := prot1 }
  { p1 with
    air := p.air.work c online arb2.mode p1.phases prot1.heldCapacity
      (prot1.highLimit || !f.supplyUsable)
      (if prot1.highLimit then f.prot.boost else 0) f.entries }

/-- The pending mark after a reckoning's own triggers: a change of plant state (R109), and the frost
lockout standing being set (R148). -/
def Plant.markAfter (new old : Plant) : Bool :=
  old.mark || new.arb.mode != old.arb.mode || (new.arb.frostLockout && !old.arb.frostLockout)

/-- The reckoning in flight is over; if the pending mark is set it is cleared and one new reckoning
begins (R107). -/
def State.closePlant (s : State) (mark : Bool) : State :=
  let s1 := s.onPlant fun p => { p with flight := none, mark := false }
  s1.andIf mark State.beginPlant

/-- A plant reckoning ends. A void one stores its sums and nothing else (R108, R125). -/
def State.endPlant (s : State) (f : PlantFlight) : State :=
  if f.void then
    (s.onPlant fun p => { p with arb := p.arb.storeSums (sumsOf f.entries) }).closePlant s.plant.mark
  else
    let new := s.plant.afterReckoning f s.cfg (s.member.station == .online) s.timer
    let s1 := ({ s with plant := new }.tellShare s.plant).tellStatus s.plant
    s1.closePlant (new.markAfter s.plant)

end Sys2Proof.Machine
end

