-- ==== Sys2Proof/Machine/Membership.lean ====
section
/-! DEFINITION. The membership unit (01): the station states, duplicate evidence, the peer table with
its aging and eviction, the followed plant, and table writes. -/

namespace Sys2Proof.Machine

/-! ### Station states (R3 to R11) -/

/-- Leaving ONLINE makes a plant reckoning in flight void (R108). -/
def PlantFlight.makeVoid (f : PlantFlight) : PlantFlight := { f with void := true }

/-- The effects of having left ONLINE: the line-quiet timer and the announcements stop, the plant is
forced to IDLE, and both units take the online change as a trigger, a plant reckoning in flight
becoming void (R9, R22, R58, R108, R124, R141). -/
def State.leftOnline (s : State) : State :=
  let s1 := (s.onMember fun m => { m with lineQuiet := .stopped }).onAnnouncer fun _ =>
    Announcer.reset
  let s2 :=
    match s.role with
    | .zone => s1
    | .plant =>
      (s1.onPlant fun p => { p with flight := p.flight.map PlantFlight.makeVoid }).forcePlantIdle
  s2.shareTrigger.plantTrigger

/-- What entering a state begins: the join window, the roll call, the duplicate hold (R4, R5, R10);
in ONLINE the line-quiet timer, the online-change triggers and the first announcement (R7, R55,
R138). -/
def State.entered (s : State) : State :=
  match s.member.station with
  | .start => s
  | .unaddressed => s
  | .listen => s.onMember fun m => { m with joinWindow := s.timer Config.joinWindowMs }
  | .claim => s.placePeriodic .rollCall s.address
  | .duplicate => s.onMember fun m => { m with duplicateHold := s.timer Config.duplicateHoldMs }
  | .online =>
    (s.onMember fun m =>
      { m with lineQuiet := s.timer Config.lineQuietMs }).shareTrigger.plantTrigger.placeAnnouncement

/-- The station enters a state. The membership timers of the state left are stopped, the frames the
new state does not allow leave the queue (R3), and leaving ONLINE has its effects (R9). -/
def State.enterStation (s : State) (station : Station) : State :=
  let s1 := (s.onMember fun m =>
    { m with
      station, joinWindow := .stopped, rollCallWait := .stopped, duplicateHold := .stopped
      }).purgeQueue
  (s1.andIf (s.member.station == .online) State.leftOnline).entered

/-- Duplicate evidence (R4, R5, R6, R9); in DUPLICATE it has no other effect (R10). -/
def State.duplicateEvidence (s : State) : State :=
  match s.member.station with
  | .listen => s.enterStation .duplicate
  | .claim => s.enterStation .duplicate
  | .online => s.enterStation .duplicate
  | .start => s
  | .unaddressed => s
  | .duplicate => s

/-- The frame's source is the station's own address; source 0 is no station's (R2, R13). -/
def State.fromOwn (s : State) (f : Frame) : Bool :=
  f.src.toNat == s.address && f.src.toNat != 0

/-- A frame is also handed to the membership unit if its source is the own address (R164). -/
def State.judgeSource (s : State) (f : Frame) : State :=
  s.andIf (s.fromOwn f) State.duplicateEvidence

/-- A ROLL CALL for the own address in ONLINE is answered with a PRESENT (R8). -/
def State.answerRollCall (s : State) : State :=
  (s.placeReply .present s.address [byte (roleCode s.role)] .plain).1

/-! ### The peer table (R12 to R17) -/

/-- An entry is put at the tail of its chain (R15). -/
def admitEntry (table : List Entry) (e : Entry) : List Entry :=
  (table.filter fun x => chainOf x.address ≤ chainOf e.address) ++
    e :: table.filter fun x => decide (chainOf e.address < chainOf x.address)

/-- The greatest age of the STALE entries. -/
def oldestStale (table : List Entry) : Nat :=
  table.foldl (fun n e => if e.standing == .stale then max n e.age else n) 0

/-- The STALE entry to evict: the greatest age, then the lowest chain, then the earliest position
(R16). -/
def victim (table : List Entry) : Option Entry :=
  table.find? fun e => e.standing == .stale && e.age == oldestStale table

def removeEntry (table : List Entry) (address : Nat) : List Entry :=
  table.filter fun e => e.address != address

def newEntry (address : Nat) (r : Record) : Entry :=
  { address, standing := .fresh, age := 0, heard := 1, record := r }

/-- An entry heard again (R14). -/
def Entry.refresh (e : Entry) (r : Record) : Entry :=
  { e with standing := .fresh, age := 0, heard := wrap256 e.heard, record := r }

def refreshEntry (table : List Entry) (address : Nat) (r : Record) : List Entry :=
  table.map fun e => if e.address == address then e.refresh r else e

/-- The stale limit of a role: 45 s, 15 s (R17). -/
def staleLimit : Role → Nat
  | .zone => 45
  | .plant => 15

/-- An entry one second older (R17). -/
def Entry.older (e : Entry) : Entry :=
  let age := saturate e.age 255
  { e with age, standing := if age == staleLimit e.role then .stale else e.standing }

/-- The table one aging expiry later: entries that reach 180 are gone (R17). -/
def ageTable (table : List Entry) : List Entry :=
  (table.map Entry.older).filter fun e => e.age != 180

/-- An aging expiry turns an entry STALE or removes one (R17). -/
def agingChanges (table : List Entry) : Bool :=
  table.any fun e => e.older.standing != e.standing || e.older.age == 180

/-- The followed plant a table gives: the lowest FRESH PLANT address in the zone role, none in the
plant role (R19). -/
def followedOf (role : Role) (table : List Entry) : Option Nat :=
  match role with
  | .zone => lowest (freshPlants table)
  | .plant => none

/-- The table becomes `table`. If the handling changed it in one of the ways of R18, the followed plant
is worked out again and one membership-change event is raised. The two-plants and plant-silent flags
may prompt (R18 to R21). -/
def State.tableBecomes (s : State) (table : List Entry) (changed : Bool) : State :=
  let followed := if changed then followedOf s.role table else s.member.followed
  let s1 := s.onMember fun m => { m with table, followed }
  (s1.andIf changed State.membershipChange).promptFlags s

/-- The zone fields of trigger 4 differ (R61). -/
def ZoneRecord.shareDiffers (a b : ZoneRecord) : Bool :=
  a.wanted != b.wanted || a.demand != b.demand || a.qd != b.qd || a.relief != b.relief ||
    a.reliefAvailable != b.reliefAvailable

/-- The plant fields of trigger 2 differ (R61). -/
def PlantRecord.shareDiffers (a b : PlantRecord) : Bool :=
  a.mode != b.mode || a.phases.defrost != b.phases.defrost || a.qb != b.qb

/-- The change of a refreshed entry's record is a share reckoning trigger: trigger 4 for a FRESH ZONE
entry, trigger 2 for the followed plant of a zone (R61, R62). -/
def State.recordTriggersShare (s : State) (old : Entry) (new : Record) : Bool :=
  match old.record, new with
  | .zone a, .zone b => old.standing == .fresh && a.shareDiffers b
  | .plant a, .plant b =>
    s.role == .zone && s.member.followed == some old.address && a.shareDiffers b
  | .zone _, .plant _ => false
  | .plant _, .zone _ => false

/-- The change is a peer change for the plant reckoning: as trigger 4, with the weight (R106). -/
def recordTriggersPlant (old : Entry) (new : Record) : Bool :=
  match old.record, new with
  | .zone a, .zone b => old.standing == .fresh && (a.shareDiffers b || a.weight != b.weight)
  | .plant _, .plant _ => false
  | .zone _, .plant _ => false
  | .plant _, .zone _ => false

def Record.role : Record → Role
  | .zone _ => .zone
  | .plant _ => .plant

/-- A record from an address is tabled: refreshed (R14), admitted (R15), admitted after an eviction or
not admitted (R16). -/
def State.tableRecord (s : State) (address : Nat) (r : Record) : State :=
  match findEntry s.member.table address with
  | some old =>
    let s1 := s.tableBecomes (refreshEntry s.member.table address r)
      (old.standing == .stale || old.role != r.role)
    (s1.andIf (s.recordTriggersShare old r) State.shareTrigger).andIf
      (recordTriggersPlant old r) State.plantTrigger
  | none =>
    if s.member.table.length < Config.tableRoom then
      s.tableBecomes (admitEntry s.member.table (newEntry address r)) true
    else
      match victim s.member.table with
      | some v =>
        s.tableBecomes (admitEntry (removeEntry s.member.table v.address) (newEntry address r)) true
      | none =>
        s.onMember fun m =>
          { m with tableFull := true, tableFullCount := saturate m.tableFullCount 255 }

/-- The record an ANNOUNCE or PLANT STATUS frame is tabled as (R13). -/
def Frame.record (f : Frame) : Record :=
  if f.isKind .announce then .zone (ZoneRecord.ofBody f.body) else .plant (PlantRecord.ofBody f.body)

/-- The frame handler hands an ANNOUNCE or PLANT STATUS to the membership unit. One from the own
address is judged as evidence, one from source 0 has no effect; any other is tabled, waiting as the
handler's current frame while a snapshot occupies the table (R13, R23, R164). -/
def State.handRecord (s : State) (f : Frame) : State :=
  if f.src.toNat == 0 then s
  else if s.fromOwn f then s.duplicateEvidence
  else if s.occupied then s.onLine fun l => { l with current := some f }
  else s.tableRecord f.src.toNat f.record

/-- One aging expiry is applied (R17). -/
def State.applyAging (s : State) : State :=
  s.tableBecomes (ageTable s.member.table) (agingChanges s.member.table)

/-- The table is emptied by a RESTART; `followed` says whether a plant was followed when the order was
carried out (R11). -/
def State.applyEmptying (s : State) (followed : Bool) : State :=
  s.tableBecomes [] (!s.member.table.isEmpty || followed)

/-- An occupation may have ended: the deferred aging expiries are applied in turn, and then a waiting
emptying; a waiting write of the frame handler comes after them, as its own event (R11, R23). Where an
aging's event begins the other unit's snapshot, that snapshot takes the table first and the emptying
waits again (R23 leaves the order open; log entry 25). -/
def State.occupationEnds (s : State) : State :=
  if s.occupied then s
  else
    let s1 := s.onMember fun m => { m with deferred := 0 }
    let s2 := State.applyAging^[s.member.deferred] s1
    match s.member.emptying with
    | none => s2
    | some followed =>
      if s2.occupied then s2.onMember fun m => { m with followed := none }
      else (s2.onMember fun m => { m with emptying := none }).applyEmptying followed

/-- The table is emptied at once, or after the snapshot in progress (R11, R23). -/
def State.emptyTable (s : State) : State :=
  let followed := s.member.followed.isSome
  if s.occupied then
    s.onMember fun m =>
      { m with emptying := some (followed || m.emptying.getD false), followed := none }
  else (s.applyEmptying followed).onMember fun m => { m with followed := none }

end Sys2Proof.Machine
end

