-- ==== Sys2Proof/Machine/LineOps.lean ====
section
/-! DEFINITION. The zone line (09): assembling and receiving frames, the frame handler, and the
station's own attempts. -/

namespace Sys2Proof.Machine

def State.onLatches (s : State) (f : LineLatches → LineLatches) : State :=
  s.onLine fun l => { l with latches := f l.latches }

def State.onCounters (s : State) (f : LineCounters → LineCounters) : State :=
  s.onLine fun l => { l with counters := f l.counters }

/-! ### The end of a transmission (R168) -/

/-- The owner of an entry is told that it was sent (R6, R57, R140, R179, R181). -/
def State.sentTo (s : State) (e : TxEntry) : State :=
  match e.kind with
  | .announce => s.announcementSent (e.body.getD [])
  | .plantStatus => s.announcementSent (e.body.getD [])
  | .rollCall => s.onMember fun m => { m with rollCallWait := s.timer Config.rollCallWaitMs }
  | .present => s
  | .setpointReply => s
  | .result => s.resultLeft e.use .sent

/-- The transmission in flight is complete: its entry leaves the queue, the line is idle, the owner is
told, and a new wait period follows if the queue still holds a frame (R168). -/
def State.completeSending (s : State) (e : TxEntry) : State :=
  let s1 := s.onLine fun l =>
    { l with
      queue := l.queue.filter fun x => !x.inFlight, idle := true, echoed := 0, assembly := [] }
  (s1.sentTo e).beginWait

/-! ### Reception (R160 to R163) -/

/-- A received frame: counted, the line-quiet timer started again in ONLINE, filtered by destination,
and placed in the receive pair or lost to overrun (R22, R162, R163). -/
def State.receive (s : State) (f : Frame) : State :=
  let s1 := (s.onCounters fun c => { c with good := (c.good + 1) % 65536 }).andIf
    s.member.lineQuiet.isRunning fun t =>
      t.onMember fun m => { m with lineQuiet := t.timer Config.lineQuietMs }
  if f.dest.toNat == 0 || f.dest.toNat == s.address then
    if s.line.pair.length < 2 then s1.onLine fun l => { l with pair := l.pair ++ [f] }
    else (s1.onLatches fun x => { x with overrun := true }).onCounters fun c =>
      { c with overrun := saturate c.overrun 255 }
  else s1

/-- The assembler judges the bytes of a frame with the newest one: too long, complete and received, or
complete with wrong check bytes, or going on (R160 to R162). -/
def State.judgeAssembly (s : State) (bs : List Byte) : State :=
  if bs.length == 5 && decide (32 < nat1 bs 4) then
    (s.onLine fun l => { l with assembly := [] }).onLatches fun x => { x with length := true }
  else if 5 ≤ bs.length && bs.length == 7 + nat1 bs 4 then
    let s1 := s.onLine fun l => { l with assembly := [] }
    if (parseFrame bs).2 then s1.receive (parseFrame bs).1
    else (s1.onLatches fun x => { x with check := true }).onCounters fun c =>
      { c with check := saturate c.check 255 }
  else s.onLine fun l => { l with assembly := bs }

/-- A frame in assembly is abandoned because the line has been idle for more than 2 byte-times
(R161). -/
def State.truncate (s : State) : State :=
  if s.line.assembly.isEmpty then s
  else (s.onLine fun l => { l with assembly := [] }).onLatches fun x => { x with truncated := true }

/-- A byte is handed to the assembler with the idle time before it: a lead after 2 byte-times of idle
begins a frame, a byte of a frame goes on with it, any other is ignored (R158, R160). -/
def State.assemble (s : State) (b : LineByte) : State :=
  if s.line.assembly.isEmpty then
    if 20 ≤ b.idleBits && b.value == leadByte then s.onLine fun l => { l with assembly := [b.value] }
    else s
  else s.judgeAssembly (s.line.assembly ++ [b.value])

/-- The line has become idle: with no attempt in flight, the idle time starts and a wait period may
begin. A line that is idle already does not become so again (R157, R167). -/
def State.lineIdle (s : State) : State :=
  if s.line.sending.isSome || s.line.idle then s
  else (s.onLine fun l => { l with idle := true, space := false }).beginWait

/-! ### Attempts (R167 to R170) -/

/-- An attempt starts: a periodic body is built and its owner's prompt-waiting mark cleared, the entry
is in flight, and a frame still in assembly is abandoned, the line having been idle for more than 2
byte-times (R161, R168). -/
def State.startAttempt (s : State) (e : TxEntry) : State :=
  let s1 := s.truncate
  let body := if e.kind.periodic then some (s.periodicBody e.kind) else e.body
  let s2 := s1.onLine fun l =>
    { l with
      idle := false, wait := none, echoed := 0
      queue := updateFirst (fun x => x.kind.urgency == e.kind.urgency)
        (fun x => { x with inFlight := true, body }) l.queue }
  s2.andIf (e.kind == ownKind s.role) fun t => t.onAnnouncer fun a => { a with waiting := false }

/-- The owner of an entry is told that it was discarded as crowded (R170). -/
def State.crowdedTo (s : State) (e : TxEntry) : State :=
  match e.kind with
  | .announce => s
  | .plantStatus => s
  | .rollCall => s.enterStation .listen
  | .present => s
  | .setpointReply => s
  | .result => s.resultLeft e.use .crowded

/-- An entry after a lost attempt; a periodic frame keeps no body (R169). -/
def TxEntry.afterLoss (e : TxEntry) : TxEntry :=
  { e with lost := e.lost + 1, inFlight := false, body := if e.kind.periodic then none else e.body }

/-- The attempt in flight is lost: counted, and the sixteenth of one frame discards it as crowded
(R169, R170). -/
def State.loseAttempt (s : State) (e : TxEntry) : State :=
  let s1 := (s.onCounters fun c => { c with lostAttempts := saturate c.lostAttempts 255 }).onLine
    fun l => { l with echoed := 0 }
  if 16 ≤ e.lost + 1 then
    let s2 := (s1.onLine fun l => { l with queue := l.queue.filter fun x => !x.inFlight }).onLatches
      fun x => { x with crowded := true }
    s2.crowdedTo e
  else s1.onLine fun l => { l with queue := updateFirst TxEntry.inFlight TxEntry.afterLoss l.queue }

/-! ### The bytes of the line, the station's own among them (R157, R158, R167 to R169) -/

/-- A byte can begin: after a framing error the receiver waits for the line to return to mark, so not
with no idle time behind a line that stands in space (R158). -/
def Line.canBegin (l : Line) (idleBits : Nat) : Bool := !l.space || decide (0 < idleBits)

/-- A run of bytes can come: it is empty, or its first byte can begin (R158). -/
def Line.canHear (l : Line) : List LineByte → Bool
  | [] => true
  | b :: _ => l.canBegin b.idleBits

/-- A byte begins. Idle before it made the line idle, and more than 2 byte-times of idle abandon a
frame in assembly; its start bit ends the idle time and the wait period (R157, R161, R167). -/
def State.byteBegins (s : State) (idleBits : Nat) : State :=
  ((s.andIf (decide (0 < idleBits)) State.lineIdle).andIf (decide (20 < idleBits))
    State.truncate).onLine fun l => { l with idle := false, wait := none, space := false }

/-- The echo of the next byte sent came back as it was sent: the transmission is complete with the last
one, and before that the assembler takes it like any other byte (R162, R168). -/
def State.echoMatches (s : State) (e : TxEntry) (b : LineByte) : State :=
  if (s.frameOf e).bytes.length ≤ s.line.echoed + 1 then s.completeSending e
  else (s.onLine fun l => { l with echoed := l.echoed + 1 }).assemble b

/-- A byte comes over the line. While an attempt is in flight it is the echo of the next byte sent: one
that differs loses the attempt, and the assembler goes on with it (R158, R160, R168, R169). -/
def State.hearByte (s : State) (b : LineByte) : State :=
  let s1 := s.byteBegins b.idleBits
  match s1.line.sending with
  | none => s1.assemble b
  | some e =>
    if (s1.frameOf e).bytes[s1.line.echoed]? == some b.value then s1.echoMatches e b
    else (s1.loseAttempt e).assemble b

/-- A run of bytes comes over the line, after which the line is idle (R157, R160, R167). -/
def State.hearRun (s : State) (bytes : List LineByte) : State :=
  (bytes.foldl State.hearByte s).lineIdle

/-- A byte comes with a framing error: the latch and the counter, the frame in assembly abandoned; an
attempt in flight, whose echo it was, is lost (R158, R161, R169). -/
def State.badByte (s : State) (idleBits : Nat) : State :=
  let s1 := (((s.byteBegins idleBits).onLatches fun x => { x with framing := true }).onCounters fun c =>
    { c with framing := saturate c.framing 255 }).onLine fun l => { l with assembly := [] }
  match s1.line.sending with
  | some e => s1.loseAttempt e
  | none => s1

/-- After a byte with a framing error the line returns to mark and is idle, or goes on standing in
space (R157, R158). -/
def State.framingError (s : State) (idleBits : Nat) (lineHeld : Bool) : State :=
  if lineHeld then (s.badByte idleBits).onLine fun l => { l with space := true }
  else (s.badByte idleBits).lineIdle

/-- The bytes of the own frame that came back since the last event, each right behind the one before,
and the wrong one (R169). -/
def State.echoRun (s : State) (e : TxEntry) (matched : Nat) (wrong : Byte) : List LineByte :=
  (((s.frameOf e).bytes.drop s.line.echoed).take matched ++ [wrong]).zipIdx.map fun (b, i) =>
    { idleBits := if s.line.echoed + i == 0 then 20 else 0, value := b }

/-- The echo of the attempt in flight differs at a byte, or came back with a framing error: the attempt
is lost, and the bytes received stay in assembly, the wrong one included. The line is idle then, or
another device sends on (R158, R169; log entry 10). A byte that is the one sent, or a place beyond the
frame, is no lost attempt (log entry 2). -/
def State.echoDiffers (s : State) (e : TxEntry) (matched : Nat) (wrong : Option Byte) (goesOn : Bool) :
    State :=
  match (s.frameOf e).bytes[s.line.echoed + matched]? with
  | none => s
  | some sent =>
    if wrong == some sent then s
    else
      (match wrong with
        | none => s.badByte 0
        | some w => (s.echoRun e matched w).foldl State.hearByte s).andIf (!goesOn) State.lineIdle

/-! ### The frame handler (R164) -/

/-- The frame handler takes the older frame of the receive pair if it holds no current frame and the
frame is one the event names; in START it discards the frame as it takes it (R1, R164). -/
def State.takeFrame (s : State) (named : Frame → Bool) (act : Frame → State → State) : State :=
  s.take fun s =>
    match s.line.current, s.line.pair with
    | none, f :: rest =>
      if named f then
        let s1 := s.onLine fun l => { l with pair := rest }
        if s.member.station == .start then s1 else act f s1
      else s
    | none, [] => s
    | some _, _ => s

end Sys2Proof.Machine
end

