-- ==== Sys2Proof/Machine/FrameCommands.lean ====
section
/-! DEFINITION. The frames the frame handler passes on by kind, requests apart (R13, R164). -/

namespace Sys2Proof.Machine

/-- ANNOUNCE: tabled as a zone record (R13 to R16). -/
def execAnnounce (s : State) : Outcome :=
  .next <| s.takeFrame (fun f => f.isKind .announce) fun f t => t.handRecord f

/-- PLANT_STATUS: tabled as a plant record (R13 to R16). -/
def execPlantStatus (s : State) : Outcome :=
  .next <| s.takeFrame (fun f => f.isKind .plantStatus) fun f t => t.handRecord f

/-- A ROLL CALL from the own address: answered in ONLINE (R8), evidence elsewhere (R4, R6). Any other
is discarded (R164). -/
def State.heardRollCall (s : State) (f : Frame) : State :=
  if s.fromOwn f then
    if s.member.station == .online then s.answerRollCall else s.duplicateEvidence
  else s

/-- ROLL_CALL (R4, R6, R8). -/
def execRollCall (s : State) : Outcome :=
  .next <| s.takeFrame (fun f => f.isKind .rollCall) fun f t => t.heardRollCall f

/-- PRESENT: evidence if it comes from the own address, else discarded (R6, R164). -/
def execPresent (s : State) : Outcome :=
  .next <| s.takeFrame (fun f => f.isKind .present) fun f t => t.judgeSource f

/-- SETPOINT: applied and answered by the setpoint store, its source judged after (R36 to R41, R164;
log entry 6). -/
def execSetpoint (s : State) : Outcome :=
  .next <| s.takeFrame (fun f => f.isKind .setpoint) fun f t => (t.applySetpoint f).judgeSource f

/-- SETPOINT_REPLY: discarded, its source judged (R164). -/
def execSetpointReply (s : State) : Outcome :=
  .next <| s.takeFrame (fun f => f.isKind .setpointReply) fun f t => t.judgeSource f

/-- RESULT: discarded, its source judged (R164). -/
def execResult (s : State) : Outcome :=
  .next <| s.takeFrame (fun f => f.isKind .result) fun f t => t.judgeSource f

/-- UNKNOWN_KIND_FRAME: the UNKNOWN latch is set and the frame is discarded (R164). -/
def execUnknownKindFrame (s : State) : Outcome :=
  .next <| s.takeFrame (fun f => f.form == none) fun _ t =>
    t.onLatches fun x => { x with unknown := true }

end Sys2Proof.Machine
end

