-- ==== Sys2Proof/Machine/LineCommands.lean ====
section
/-! DEFINITION. The commands of the line controller (09). -/

namespace Sys2Proof.Machine

/-- RECEIVED_FRAME (R160 to R163); nothing is heard on a line that has not returned to mark (R158; log
entry 2). -/
def execReceivedFrame (bytes : List LineByte) (s : State) : Outcome :=
  .next <| s.take fun t => t.andIf (t.line.canHear bytes) fun u => u.hearRun bytes

/-- FRAMING_ERROR (R158, R161); a line held in space gives one, however long it stays there (R158; log
entry 2). -/
def execFramingError (idleBits : Nat) (lineHeld : Bool) (s : State) : Outcome :=
  .next <| s.take fun t => t.andIf (t.line.canBegin idleBits) fun u => u.framingError idleBits lineHeld

/-- TRUNCATED: a run of bytes, none if it came before, then more than 2 byte-times of idle (R161). -/
def execTruncated (bytes : List LineByte) (s : State) : Outcome :=
  .next <| s.take fun t => t.andIf (t.line.canHear bytes) fun u => (u.hearRun bytes).truncate

/-- LENGTH: a run of bytes with a body-length byte above 32 (R161). -/
def execLength (bytes : List LineByte) (s : State) : Outcome :=
  .next <| s.take fun t => t.andIf (t.line.canHear bytes) fun u => u.hearRun bytes

/-- An attempt may start: a wait period is in progress, and the line has been idle for the head's gap
with the extra drawn (R166, R167, R171). -/
def State.mayAttempt (s : State) (idleBits : Nat) : Option TxEntry :=
  if s.line.stuck || s.line.sending.isSome then none
  else match s.line.wait, s.line.head with
    | some x, some e => if gapBits e.kind.urgency x ≤ idleBits then some e else none
    | _, _ => none

/-- ATTEMPT_START (R167, R168). -/
def execAttemptStart (idleBits : Nat) (s : State) : Outcome :=
  .next <| s.take fun t =>
    match t.mayAttempt idleBits with
    | some e => t.startAttempt e
    | none => t

/-- TRANSMISSION_COMPLETE: the rest of the echo came back as it was sent (R168). -/
def execTransmissionComplete (s : State) : Outcome :=
  .next <| s.take fun t =>
    match t.line.sending with
    | some e => t.completeSending e
    | none => t

/-- LOST_ATTEMPT (R169, R170). -/
def execLostAttempt (matched : Nat) (wrong : Option Byte) (goesOn : Bool) (s : State) : Outcome :=
  .next <| s.take fun t =>
    match t.line.sending with
    | some e => t.echoDiffers e matched wrong goesOn
    | none => t

/-- STUCK: the stuck condition begins (R171). -/
def execStuck (s : State) : Outcome :=
  .next <| s.take fun t =>
    t.andIf (!t.line.stuck) fun u =>
      u.onLine fun l =>
        { l with
          stuck := true, space := true, idle := false, wait := none
          latches := { l.latches with stuck := true } }

/-- STUCK_END: the line returns to mark, whether it stood in space long enough to be stuck or not: the
stuck condition ends and the idle time starts (R157, R171; log entry 9). -/
def execStuckEnd (s : State) : Outcome :=
  .next <| s.take fun t =>
    t.andIf (t.line.stuck || t.line.space) fun u =>
      (u.onLine fun l => { l with stuck := false, space := false, idle := true }).beginWait

end Sys2Proof.Machine
end

