-- ==== Sys2Proof/Machine/MembershipCommands.lean ====
section
/-! DEFINITION. The commands of the membership unit: its timers, the snapshots, the waiting table
write, the RESTART order (01). -/

namespace Sys2Proof.Machine

/-- JOIN_WINDOW_EXPIRY: LISTEN is left for CLAIM (R4, R5). -/
def execJoinWindowExpiry (s : State) : Outcome :=
  .next <| s.takeExpiry s.member.joinWindow fun t => t.enterStation .claim

/-- ROLL_CALL_WAIT_EXPIRY: CLAIM is left for ONLINE (R6, R7). -/
def execRollCallWaitExpiry (s : State) : Outcome :=
  .next <| s.takeExpiry s.member.rollCallWait fun t => t.enterStation .online

/-- DUPLICATE_HOLD_EXPIRY: DUPLICATE is left for LISTEN (R10). -/
def execDuplicateHoldExpiry (s : State) : Outcome :=
  .next <| s.takeExpiry s.member.duplicateHold fun t => t.enterStation .listen

/-- AGING_EXPIRY: the table is aged, or the expiry deferred while a snapshot occupies it; the timer
starts again (R17, R23). -/
def execAgingExpiry (s : State) : Outcome :=
  .next <| s.takeExpiry s.member.aging fun t =>
    let t1 := t.onMember fun m => { m with aging := t.timer Config.agingMs }
    if t.occupied then t1.onMember fun m => { m with deferred := m.deferred + 1 } else t1.applyAging

/-- LINE_QUIET_EXPIRY: the latch is set and the timer starts again (R22). -/
def execLineQuietExpiry (s : State) : Outcome :=
  .next <| s.takeExpiry s.member.lineQuiet fun t =>
    t.onMember fun m =>
      { m with lineQuietLatch := true, lineQuiet := t.timer Config.lineQuietMs }

/-- The frame handler's waiting table write is applied if the table is not occupied (R23). -/
def State.applyWaitingWrite (s : State) : State :=
  match s.line.current with
  | none => s
  | some f =>
    if s.occupied then s
    else (s.onLine fun l => { l with current := none }).tableRecord f.src.toNat f.record

/-- TABLE_WRITE_APPLIED (R23). -/
def execTableWriteApplied (s : State) : Outcome := .next <| s.take State.applyWaitingWrite

/-- A unit's snapshot ends: its computation of 2 ms begins, and the occupation may end (R23, R64,
R108). -/
def State.endSnapshot (s : State) (unit : ReckoningUnit) : State :=
  match unit with
  | .share =>
    match s.share.flight with
    | some { phase := .snapshot, due, snapshot } =>
      ((s.reach due).onShare fun u =>
        { u with
          flight := some { phase := .computing, due := due + Config.computationMs, snapshot }
          }).occupationEnds
    | _ => s
  | .plant =>
    match s.plant.flight with
    | some f =>
      if f.phase == .snapshot then
        ((s.reach f.due).onPlant fun p =>
          { p with
            flight := some { f with phase := .computing, due := f.due + Config.computationMs }
            }).occupationEnds
      else s
    | none => s

/-- SNAPSHOT_END (R23). -/
def execSnapshotEnd (unit : ReckoningUnit) (s : State) : Outcome :=
  .next <| s.take fun t => t.endSnapshot unit

/-- A station in START or UNADDRESSED has taken no order, and stays there (R1, R2). -/
def Station.takesOrders : Station → Bool
  | .start => false
  | .unaddressed => false
  | .listen => true
  | .claim => true
  | .online => true
  | .duplicate => true

/-- A RESTART order that was handed on is carried out: the table is emptied, and the station enters
LISTEN with a new join window (R11; log entry 20). -/
def State.carryOutRestart (s : State) : State :=
  match s.member.restartsHanded with
  | 0 => s
  | n + 1 =>
    if s.member.station.takesOrders then
      ((s.onMember fun m => { m with restartsHanded := n }).emptyTable).enterStation .listen
    else s

/-- RESTART_CARRIED_OUT (R11). -/
def execRestartCarriedOut (s : State) : Outcome := .next <| s.take State.carryOutRestart

end Sys2Proof.Machine
end

