-- ==== Sys2Proof/Machine/ConfigLoader.lean ====
section
/-! DEFINITION. The configuration loader (11): judging the image and working its fields into the
configuration product. -/

namespace Sys2Proof.Machine

/-- What the loader brings out: the product and the two marks (R185, R186). -/
structure Load where
  product : Config.Product
  fault : Bool
  clamped : Bool
  deriving DecidableEq, Repr

/-- The image mark (R185). -/
def imageMark : Byte := 0xA5

/-- The image is present: 64 bytes came, and the first is the image mark (R185). -/
def imagePresent (image : List Byte) : Bool :=
  decide (64 ≤ image.length) && byteAt image 0 == imageMark

/-- The check bytes match the sums over bytes 0 to 61 (R185). -/
def imageChecked (image : List Byte) : Bool :=
  nat1 image 62 == (checkSums (image.take 62)).1 && nat1 image 63 == (checkSums (image.take 62)).2

/-- A field outside its range. -/
def outside (v lo hi : Nat) : Bool := decide (v < lo) || decide (hi < v)

/-- A signed field outside its range. -/
def outsideInt (v lo hi : Int) : Bool := decide (v < lo) || decide (hi < v)

/-- An on-off field: 0 is off, any other value on (R186). -/
def onOff (v : Nat) : Bool := v != 0

/-! ### The characteristic table (R187) -/

/-- T0..T8 as the image gives them (R192). -/
def imageTable (image : List Byte) : List Nat := (List.range 9).map fun i => nat2 image (1 + 2 * i)

/-- No entry is smaller than the one before it. -/
def nonDecreasing : List Nat → Bool
  | [] => true
  | [_] => true
  | a :: b :: rest => decide (a ≤ b) && nonDecreasing (b :: rest)

/-- The entries held to 0..1200. -/
def heldTable (image : List Byte) : List Nat := (imageTable image).map fun t => clampNat t 0 1200

/-- The table of the product: the entries held, or the straight line in their place (R187). -/
def loadedTable (image : List Byte) : List Nat :=
  if nonDecreasing (heldTable image) then heldTable image else Config.straightLine

/-! ### The three parts (R186, R192) -/

/-- The role-independent part. -/
def loadCommon (image : List Byte) (c : Config.Product) : Config.Product :=
  { c with
    table := loadedTable image
    fallback := clampNat (nat2 image 19) 0 1200
    alertMask := byteAt image 21 }

/-- Whether the role-independent part sets CONFIG CLAMPED. -/
def commonClamped (image : List Byte) : Bool :=
  (imageTable image).any (fun t => outside t 0 1200) || !nonDecreasing (heldTable image) ||
    outside (nat2 image 19) 0 1200

/-- The zone part. -/
def loadZone (image : List Byte) (c : Config.Product) : Config.Product :=
  { c with
    qd := clampNat (nat1 image 22) 2 80
    relief := clampNat (nat1 image 23) 0 80
    weight := clampNat (nat1 image 24) 1 4
    band := clampNat (nat1 image 25) 5 40
    posMin := clampNat (nat2 image 26) 0 300
    heat := clampInt (int2 image 28) 100 300
    cool := clampInt (int2 image 30) 120 320
    humidity := clampNat (nat1 image 32) 35 70
    setback := clampNat (nat1 image 33) 0 60
    panelLock := onOff (nat1 image 34)
    lockSpan := clampNat (nat1 image 35) 0 30
    windowUse := onOff (nat1 image 36)
    occupancyUse := onOff (nat1 image 37) }

/-- Whether the zone part sets CONFIG CLAMPED. -/
def zoneClamped (image : List Byte) : Bool :=
  outside (nat1 image 22) 2 80 || outside (nat1 image 23) 0 80 || outside (nat1 image 24) 1 4 ||
  outside (nat1 image 25) 5 40 || outside (nat2 image 26) 0 300 ||
  outsideInt (int2 image 28) 100 300 || outsideInt (int2 image 30) 120 320 ||
  outside (nat1 image 32) 35 70 || outside (nat1 image 33) 0 60 || outside (nat1 image 34) 0 1 ||
  outside (nat1 image 35) 0 30 || outside (nat1 image 36) 0 1 || outside (nat1 image 37) 0 1

/-- Qmax, which is judged before the fields it limits (R186). -/
def loadedQmax (image : List Byte) : Nat := clampNat (nat2 image 38) 20 400

/-- The plant part. -/
def loadPlant (image : List Byte) (c : Config.Product) : Config.Product :=
  { c with
    qmax := loadedQmax image
    qminHeat := clampNat (nat2 image 40) 4 (loadedQmax image)
    qminCool := clampNat (nat2 image 42) 4 (loadedQmax image)
    qminDry := clampNat (nat2 image 44) 4 (loadedQmax image)
    qpurge := clampNat (nat2 image 46) 4 (loadedQmax image)
    slew := clampNat (nat1 image 48) 2 20
    kmin := clampNat (nat1 image 49) 15 40
    margin := clampNat (nat2 image 50) 50 400
    dwell := clampNat (nat2 image 52) 300 1800
    qbp := clampNat (nat1 image 54) 0 200 }

/-- Whether the plant part sets CONFIG CLAMPED. -/
def plantClamped (image : List Byte) : Bool :=
  outside (nat2 image 38) 20 400 || outside (nat2 image 40) 4 (loadedQmax image) ||
  outside (nat2 image 42) 4 (loadedQmax image) || outside (nat2 image 44) 4 (loadedQmax image) ||
  outside (nat2 image 46) 4 (loadedQmax image) || outside (nat1 image 48) 2 20 ||
  outside (nat1 image 49) 15 40 || outside (nat2 image 50) 50 400 ||
  outside (nat2 image 52) 300 1800 || outside (nat1 image 54) 0 200

/-! ### The loader -/

/-- The loader's product and marks. The part of the other role is not read and stays at its defaults
(R185, R186; log entry 4). -/
def load (role : Role) (image : List Byte) : Load :=
  if imagePresent image && imageChecked image then
    { product :=
        match role with
        | .zone => loadZone image (loadCommon image Config.defaults)
        | .plant => loadPlant image (loadCommon image Config.defaults)
      fault := false
      clamped := commonClamped image || match role with
        | .zone => zoneClamped image
        | .plant => plantClamped image }
  else { product := Config.defaults, fault := true, clamped := false }

end Sys2Proof.Machine
end

