-- ==== Sys2Proof/Machine/PartCommands.lean ====
section
/-! DEFINITION. The commands of the part as a whole: RESET, RESET_ASSERTED, START_END (R1, R184). -/

namespace Sys2Proof.Machine

/-- RESET: the reset is released. The straps are sampled and every state is what the rules give after
power-on or reset; the commands that wait keep waiting (R1, R184). -/
def execReset (role : Role) (address : BitVec 6) (contact1 contact2 : Level) (s : State) : Outcome :=
  .next { State.released role address.toNat contact1 contact2 with pending := s.pending }

/-- The part is held: every block is where a reset puts it, a reckoning in flight is abandoned, the
phases and the equipment outputs are off or 0, nothing is sent, and nothing goes on until the release
(R184; log entry 22). -/
def State.assertReset (s : State) : State :=
  let r := State.released s.role s.address s.sensing.contact1.level s.sensing.contact2.level
  { r with held := true, drive := { r.drive with phasesOn := false }, pending := s.pending }

/-- RESET_ASSERTED (R184). -/
def execResetAsserted (s : State) : Outcome := .next s.assertReset

/-- The loader's product and marks are handed to the blocks (R184, R185, R188). -/
def State.configured (s : State) (l : Load) : State :=
  { s with
    startTimer := .stopped, cfg := l.product, configFault := l.fault, configClamped := l.clamped }

/-- The blocks take what the configuration gives them at the end of START: the home values (R34), the
fallback position (R60, R84, R184) and the draw sequence (R167). -/
def State.takeProduct (s : State) : State :=
  (({ s with
      setpoints := { figures := homeFigures s.cfg, home := homeFigures s.cfg }
      line := { s.line with sequence := s.address } }).onShare fun u =>
    { u with
      standing := s.cfg.fallback
      record := { u.record with position := some s.cfg.fallback } }).handTarget s.cfg.fallback

/-- The timers that begin at the end of START: aging, sample, and in the plant role the plant timer
(R1, R25, R105). -/
def State.startTimers (s : State) : State :=
  let s1 := (s.onMember fun m => { m with aging := s.timer Config.agingMs }).onSensing fun g =>
    { g with sample := s.timer Config.sampleMs }
  s1.andIf (s.role == .plant) fun t => t.onPlant fun p => { p with timer := s.timer Config.plantMs }

/-- Each contact in use has its level compared with its inactive state (R33). -/
def State.compareContacts (s : State) : State :=
  (s.andIf (s.contactInUse .first) fun t => t.debounceAgain .first).andIf (s.contactInUse .second)
    fun t => t.debounceAgain .second

/-- START ends: UNADDRESSED for the address 0, LISTEN for any other (R1). -/
def State.endStart (s : State) (image : List Byte) : State :=
  ((s.configured (load s.role image)).takeProduct.startTimers.compareContacts).enterStation
    (if s.address == 0 then .unaddressed else .listen)

/-- START_END (R1, R184 to R188). -/
def execStartEnd (image : List Byte) (s : State) : Outcome :=
  .next <| s.takeExpiry s.startTimer fun t =>
    t.andIf (t.member.station == .start) fun u => u.endStart image

end Sys2Proof.Machine
end

