-- ==== Sys2Proof/Machine/PlantCommands.lean ====
section
/-! DEFINITION. The commands of the plant sequencer: its timers and its reckoning's end (06, 07, 08). -/

namespace Sys2Proof.Machine

def State.onArb (s : State) (f : Arbitration → Arbitration) : State :=
  s.onPlant fun p => { p with arb := f p.arb }

def State.onProt (s : State) (f : Protection → Protection) : State :=
  s.onPlant fun p => { p with prot := f p.prot }

/-- PLANT_TIMER_EXPIRY: the slew, the boost, a trigger; the timer starts again (R105, R131, R150). -/
def execPlantTimerExpiry (s : State) : Outcome :=
  .next <| s.takeExpiry s.plant.timer fun t =>
    (((t.onPlant fun p => { p with timer := t.timer Config.plantMs }).slewStep).boostStep).plantTrigger

/-- A plant reckoning that is computing ends at its due moment; in any other state there is none to
end. -/
def State.plantEnds (s : State) : State :=
  match s.plant.flight with
  | none => s
  | some f => if f.phase == .computing then (s.reach f.due).endPlant f else s

/-- PLANT_RECKONING_END (R109, R125). -/
def execPlantReckoningEnd (s : State) : Outcome := .next <| s.take State.plantEnds

/-- MIN_ON_EXPIRY (R117). -/
def execMinOnExpiry (s : State) : Outcome :=
  .next <| s.takeExpiry s.plant.arb.minOn fun t =>
    (t.onArb fun a => { a with minOn := .expired }).plantTrigger

/-- MIN_OFF_EXPIRY, of the plant role (R118; log entry 33). -/
def execMinOffExpiry (s : State) : Outcome :=
  .next <| s.andIf (s.role == .plant) fun u =>
    u.takeExpiry u.plant.arb.minOff fun t =>
      (t.onArb fun a => { a with minOff := .expired }).plantTrigger

/-- DWELL_EXPIRY (R116). -/
def execDwellExpiry (s : State) : Outcome :=
  .next <| s.takeExpiry s.plant.arb.dwell fun t =>
    (t.onArb fun a => { a with dwell := .expired }).plantTrigger

/-- CHANGEOVER_PAUSE_EXPIRY: the pause is over, and min-off, if still running, is ended as expired
(R120; log entry 21). -/
def execChangeoverPauseExpiry (s : State) : Outcome :=
  .next <| s.takeExpiry s.plant.arb.pause fun t =>
    (t.onArb fun a =>
      { a with pause := .stopped, minOff := if a.minOff.isRunning then .expired else a.minOff
        }).plantTrigger

/-- FROST_TIMER_EXPIRY (R145). -/
def execFrostTimerExpiry (s : State) : Outcome :=
  .next <| s.takeExpiry s.plant.prot.frostTimer fun t =>
    (t.onProt fun p => { p with frostTimer := .expired }).plantTrigger

/-- TRIP_TIMER_EXPIRY (R147). -/
def execTripTimerExpiry (s : State) : Outcome :=
  .next <| s.takeExpiry s.plant.prot.tripTimer fun t =>
    (t.onProt fun p => { p with tripTimer := .expired }).plantTrigger

/-- DEFROST_OVERLONG_EXPIRY (R153). -/
def execDefrostOverlongExpiry (s : State) : Outcome :=
  .next <| s.takeExpiry s.plant.prot.overlong fun t =>
    (t.onProt fun p => { p with overlong := .expired }).plantTrigger

/-- STATUS_PERIOD_EXPIRY, of the plant role (R138). -/
def execStatusPeriodExpiry (s : State) : Outcome :=
  .next <| s.andIf (s.role == .plant) fun t =>
    t.takeExpiry t.plant.announcer.period State.periodExpired

/-- STATUS_SPACING_EXPIRY, of the plant role (R140). -/
def execStatusSpacingExpiry (s : State) : Outcome :=
  .next <| s.andIf (s.role == .plant) fun t =>
    t.takeExpiry t.plant.announcer.spacing State.spacingExpired

end Sys2Proof.Machine
end

