-- ==== Sys2Proof/Machine/SensingCommands.lean ====
section
/-! DEFINITION. The commands of room sensing and of the zone's announcements (02, 03). -/

namespace Sys2Proof.Machine

/-- SAMPLE_TIMER_EXPIRY: both channels are worked and handed over, the first before the second (R25 to
R30). -/
def execSampleTimerExpiry (first second : Conversion) (s : State) : Outcome :=
  .next <| s.takeExpiry s.sensing.sample fun t =>
    ((t.onSensing fun g => { g with sample := t.timer Config.sampleMs }).sampleChannels first
      second).handOver t

/-- CONTACT_LEVEL_CHANGE (R31, R33). -/
def execContactLevelChange (contact : Contact) (level : Level) (s : State) : Outcome :=
  .next <| s.take fun t => t.levelChange contact level

/-- DEBOUNCE_EXPIRY (R31, R32). -/
def execDebounceExpiry (contact : Contact) (s : State) : Outcome :=
  .next <| s.takeExpiry (s.sensing.contact contact).debounce fun t => t.debounced contact

/-- ANNOUNCE_PERIOD_EXPIRY, of the zone role (R55). -/
def execAnnouncePeriodExpiry (s : State) : Outcome :=
  .next <| s.andIf (s.role == .zone) fun t =>
    t.takeExpiry t.demand.announcer.period State.periodExpired

/-- SPACING_EXPIRY, of the zone role (R57). -/
def execSpacingExpiry (s : State) : Outcome :=
  .next <| s.andIf (s.role == .zone) fun t =>
    t.takeExpiry t.demand.announcer.spacing State.spacingExpired

end Sys2Proof.Machine
end

