-- ==== Sys2Proof/Machine/Service.lean ====
section
/-! DEFINITION. The service responder (10): judging a request, the figures of each query, the orders,
the dump. -/

namespace Sys2Proof.Machine

/-! ### Requests (R173, R190, R191) -/

/-- The assigned requests (R191). -/
inductive Request where
  | peer
  | status
  | share
  | plant
  | dump
  | clear
  | rehome
  | hold
  | restart
  deriving DecidableEq, Repr

/-- A request's query or order kind (R191). -/
def Request.code : Request → Nat
  | .peer => 1
  | .status => 2
  | .share => 3
  | .plant => 4
  | .dump => 5
  | .clear => 16
  | .rehome => 17
  | .hold => 18
  | .restart => 19

/-- The frame kind that carries a request (R191). -/
def Request.frameKind : Request → FrameKind
  | .peer => .query
  | .status => .query
  | .share => .query
  | .plant => .query
  | .dump => .query
  | .clear => .order
  | .rehome => .order
  | .hold => .order
  | .restart => .order

/-- The assigned request a QUERY or ORDER frame makes, none for an unassigned kind. -/
def Frame.request (f : Frame) : Option Request :=
  [Request.peer, .status, .share, .plant, .dump, .clear, .rehome, .hold, .restart].find? fun r =>
    f.isKind r.frameKind && nat1 f.body 0 == r.code

/-- The frame is a QUERY or an ORDER that makes the request, or one of an unassigned kind (log entry
26). -/
def Frame.makes (f : Frame) (r : Request) : Bool :=
  (f.isKind .query || f.isKind .order) &&
    match f.request with
    | some q => q == r
    | none => true

/-- A parameter byte is carried and lies within lo..hi (R190). -/
def paramWithin (f : Frame) (i lo hi : Nat) : Bool :=
  match f.body[i]? with
  | some b => decide (lo ≤ b.toNat) && decide (b.toNat ≤ hi)
  | none => false

/-- Every parameter of a request lies in its range (R173, R190). A HOLD target is judged by the drive,
once its two bytes are there. -/
def Request.inRange (r : Request) (f : Frame) : Bool :=
  match r with
  | .peer => paramWithin f 1 0 63
  | .status => paramWithin f 1 0 3 && paramWithin f 2 0 1
  | .share => true
  | .plant => paramWithin f 1 0 1
  | .dump => paramWithin f 1 0 7 && paramWithin f 2 1 24
  | .clear => true
  | .rehome => true
  | .hold => decide (3 ≤ f.body.length)
  | .restart => true

/-- Cases 1 to 4 of R173: the code a request is answered with and nothing else, none if it is carried
out. -/
def State.turnedAway (s : State) (f : Frame) : Option ResultCode :=
  if s.responder.dump.isSome && f.request != some .restart then some .busy
  else match f.request with
    | none => some .unknown
    | some r =>
      if r == .plant && s.role == .zone then some .role
      else if r.inRange f then none else some .range

/-- The body of a RESULT: request kind as received, code, marks LAST and ABORTED, figures (R191). -/
def resultBody (kind : Byte) (code : ResultCode) (last aborted : Bool) (figures : List Byte) :
    List Byte :=
  kind :: byte code.code :: flagsByte [last, aborted] :: figures

/-- A RESULT without marks is placed for the source of a request; the Bool says whether it was
placed. -/
def State.answer (s : State) (f : Frame) (code : ResultCode) (figures : List Byte) (use : ResultUse) :
    State × Bool :=
  s.placeReply .result f.src.toNat (resultBody (byteAt f.body 0) code false false figures) use

/-- A request is handled: discarded with destination or source 0, answered as cases 1 to 4 give, or
carried out (R173). -/
def State.respond (s : State) (f : Frame) (carry : Frame → State → State) : State :=
  if f.dest.toNat == 0 || f.src.toNat == 0 then s
  else match s.turnedAway f with
    | some code => (s.answer f code [] .plain).1
    | none => carry f s

/-- A service command takes the older frame of the receive pair if it makes the request; a frame with
the own address as its source also goes to the membership unit (R164, R173; log entries 5, 6). -/
def State.serve (s : State) (r : Request) (carry : Frame → State → State) : State :=
  s.takeFrame (fun f => f.makes r) fun f t => (t.respond f carry).judgeSource f

/-- A query without effect of its own is answered DONE with its figures. -/
def State.report (s : State) (f : Frame) (figures : List Byte) : State :=
  (s.answer f .done figures .plain).1

/-! ### PEER (R174) -/

/-- The whole entry: address, role, standing, age, frames heard in two bytes, record body (R191). -/
def Entry.figures (e : Entry) : List Byte :=
  [byte e.address, byte (roleCode e.role), byte e.standing.code, byte e.age] ++ bytes2 e.heard ++
    e.record.body

/-- FOUND, at a place of a chain. -/
def foundFigures (k position : Nat) (e : Entry) : List Byte := [2, byte k, byte position] ++ e.figures

/-- The figures of a PEER answer for an address (R174). -/
def peerFigures (table : List Entry) (a : Nat) : List Byte :=
  let c := chain table (chainOf a)
  match findEntry c a with
  | some e => foundFigures (chainOf a) (c.findIdx fun e => e.address == a) e
  | none =>
    if c.isEmpty then [0, byte (chainOf a), 255] else [1, byte (chainOf a), byte c.length]

/-! ### STATUS (R175) -/

/-- The three latch bytes (R191). -/
def State.latchBytes (s : State) : List Byte :=
  let l := s.line.latches
  [flagsByte [l.framing, l.truncated, l.length, l.check, l.overrun, l.unknown, l.replyDropped,
      l.crowded],
    flagsByte [l.stuck, s.member.tableFull, s.member.lineQuietLatch, s.sensing.contact1.changed,
      s.sensing.contact2.changed, s.drive.slip, s.drive.closedNotConfirmed, s.configFault],
    flagsByte [s.configClamped]]

/-- STATUS part 0. The line level is 1 while the alert line is released (log entry 17). -/
def State.statusPart0 (s : State) : List Byte :=
  let n := s.line.counters
  [byte s.member.station.code, byte (roleCode s.role), byte s.address] ++ bytes2 n.good ++
  [byte n.framing, byte n.check, byte n.overrun, byte n.lostAttempts, byte n.replyDropped,
    byte s.member.tableFullCount, byte s.member.table.length, byteOpt s.member.followed,
    flagByte s.plantSilent, flagByte s.twoPlants, flagByte s.line.stuck,
    flagsByte s.alertConditions, flagByte (!s.alertDriven)]

/-- A channel's figures around its value. -/
def Channel.figures (c : Channel) (value : List Byte) : List Byte :=
  value ++ [flagByte c.filtered.isSome, flagByte c.fault, byte c.bad, byte c.good]

/-- A humidity in whole %RH, one byte (log entry 17). -/
def humidityByte (v : Option Int) : List Byte := [byteOpt (v.map fun x => (x / 10).toNat)]

/-- STATUS part 1. -/
def State.statusPart1 (s : State) : List Byte :=
  s.sensing.first.figures (signed2Opt s.sensing.first.filtered) ++
  s.sensing.second.figures (match s.role with
    | .zone => humidityByte s.sensing.second.filtered
    | .plant => signed2Opt s.sensing.second.filtered) ++
  [flagByte s.sensing.contact1.active, flagByte s.sensing.contact2.active]

/-- The seconds left of the hold; while no hold is in effect the field is sent as absent (log entry 17:
the model's choice). -/
def State.holdSeconds (s : State) : Option Nat :=
  if s.drive.hold.isRunning then some (s.drive.hold.secondsLeft s.now) else none

/-- STATUS part 2. -/
def State.statusPart2 (s : State) : List Byte :=
  let d := s.drive
  [byte d.state.code] ++ bytes2Opt d.count ++ bytes2 d.target ++ [flagByte d.hold.isRunning] ++
  bytes2Opt s.holdSeconds ++
  [byte d.cause.code, byte d.slipCount, byte d.completed, flagByte d.rehomeDue]

/-- STATUS part 3. RHt is a target, so it has two bytes like the setpoints (R191; log entry 17). -/
def State.statusPart3 (s : State) : List Byte :=
  match s.role with
  | .zone =>
    signed2 s.setpoints.figures.heat ++ signed2 s.setpoints.figures.cool ++
    signed2 s.setpoints.figures.humidity ++ signed2 s.heatEff ++ signed2 s.coolEff ++
    [byte s.demand.dHeat, byte s.demand.dCool, byte s.demand.dDry, byte s.demand.wanted.code,
      byte s.demand.demand, flagByte s.demand.reliefAvailable]
  | .plant =>
    [flagByte s.plant.air.call, byte s.plant.air.capOut, byte s.plant.air.fanOut,
      flagByte s.plant.arb.valve]

/-- The content of a STATUS part. -/
def State.statusPart (s : State) : Nat → List Byte
  | 0 => s.statusPart0
  | 1 => s.statusPart1
  | 2 => s.statusPart2
  | _ => s.statusPart3

/-- The figures of a STATUS answer. -/
def State.statusFigures (s : State) (part : Nat) : List Byte :=
  byte part :: (s.latchBytes ++ s.statusPart part)

/-- Every latch that STATUS lists is cleared (R175). -/
def State.clearLatches (s : State) : State :=
  (((s.onLatches fun _ => LineLatches.clear).onMember fun m =>
    { m with tableFull := false, lineQuietLatch := false }).onSensing fun g =>
    { g with
      contact1 := { g.contact1 with changed := false }
      contact2 := { g.contact2 with changed := false } }).onDrive fun d =>
    { d with slip := false, closedNotConfirmed := false }

/-- A STATUS query: with the clear option the latches are cleared once the RESULT has been placed
(R175). -/
def State.reportStatus (s : State) (f : Frame) : State :=
  let p := s.answer f .done (s.statusFigures (nat1 f.body 1)) .plain
  p.1.andIf (nat1 f.body 2 == 1 && p.2) State.clearLatches

/-! ### SHARE and PLANT (R176) -/

/-- The figures of a formula case that are the zone's own, absent outside it (log entry 16). -/
def ownFigures (g : Option ShareFigures) : List Byte :=
  match g with
  | some { roleShare := .own o, .. } =>
    [flagByte o.served, byte o.claim, byte o.scaled, byte o.relief, byte o.target] ++
      bytes2 o.fraction
  | _ => [255, 255, 255, 255, 255] ++ bytes2Opt none

/-- The figures of a formula case that are the plant's, absent outside it. -/
def bypassFigures (g : Option ShareFigures) : List Byte :=
  match g with
  | some { roleShare := .bypass b, .. } =>
    bytes2 b.delivered ++ bytes2 b.unplaced ++ bytes2Opt b.fraction
  | _ => bytes2Opt none ++ bytes2Opt none ++ bytes2Opt none

/-- The figures of a SHARE answer: the fields of R80 in their order. -/
def ShareRecord.bytes (r : ShareRecord) (role : Role) : List Byte :=
  [byte r.case.code, byteOpt (r.cause.map ShareCause.code), byte r.entries, byteOpt r.followed,
    byteOpt (r.mode.map PlantMode.code)] ++
  bytes2Opt (r.figures.map ShareFigures.qbUsed) ++
  [byteOpt (r.figures.map ShareFigures.counted)] ++
  bytes2Opt (r.figures.map ShareFigures.claims) ++
  bytes2Opt (r.figures.map ShareFigures.pool) ++
  bytes2Opt (r.figures.map ShareFigures.reliefSum) ++
  (match role with
    | .zone => ownFigures r.figures
    | .plant => bypassFigures r.figures) ++
  bytes2Opt r.position ++
  [byteOpt (r.handed.map fun h => if h then 1 else 0)]

/-- PLANT part 0; the seven phase flags stand in one flag byte (log entry 15). -/
def State.plantPart0 (s : State) : List Byte :=
  let a := s.plant.arb
  let r := s.plant.air
  [byte a.mode.code, byte a.cause.code, flagByte a.frostLockout, s.plant.phases.toByte] ++
  bytes2 a.hs ++ bytes2 a.cs ++ bytes2 a.ys ++ bytes2 (a.cs + a.ys) ++ bytes2 r.sp ++ [byte r.dw] ++
  bytes2 r.qt ++ bytes2 r.qb ++ bytes2 r.qminEff ++ [byte r.kc] ++ bytes2Opt s.plant.unplaced ++
  [flagByte a.valve, flagByte s.plant.flight.isSome, flagByte s.plant.mark]

/-- A timer's field: seconds left, 65534 expired, 65535 stopped (R191). -/
def Timer.field (now : Nat) : Timer → List Byte
  | .running due => bytes2 ((Timer.running due).secondsLeft now)
  | .expired => bytes2 65534
  | .stopped => bytes2 65535

/-- PLANT part 1. -/
def State.plantPart1 (s : State) : List Byte :=
  let a := s.plant.arb
  let p := s.plant.prot
  a.minOn.field s.now ++ a.minOff.field s.now ++ a.dwell.field s.now ++ a.pause.field s.now ++
  p.frostTimer.field s.now ++ p.tripTimer.field s.now ++ p.overlong.field s.now ++
  [byte p.tripCount, byte p.boost, byteOpt p.heldCapacity, flagByte p.coilCold,
    flagByte p.coilFrozen, flagByte p.coilThawed, flagByte p.supplyHot] ++ bytes2 p.ignored

/-- The figures of a PLANT answer. -/
def State.plantFigures (s : State) (part : Nat) : List Byte :=
  byte part :: (if part == 0 then s.plantPart0 else s.plantPart1)

/-! ### CLEAR, REHOME, HOLD (R177, R178) -/

/-- The sequencer's part of a CLEAR order, in the plant role (R177). -/
def State.clearLockout (s : State) : State :=
  match s.role with
  | .zone => s
  | .plant =>
    (s.onPlant fun p => { p with arb := { p.arb with frostLockout := false } }).plantTrigger

/-- A CLEAR order is carried out (R177). -/
def State.carryClear (s : State) (f : Frame) (endStop : Bool) : State :=
  (((s.senseEndStop endStop).clearDrive.clearLockout).promptFlags s).report f []

/-- A REHOME order is carried out (R178). -/
def State.carryRehome (s : State) (f : Frame) (endStop : Bool) : State :=
  (((s.senseEndStop endStop).homeRequest).promptFlags s).report f []

/-- A HOLD order is carried out: the drive takes a target of 0..1200 and refuses one above with RANGE
(R98, R178). -/
def State.carryHold (s : State) (f : Frame) (endStop : Bool) : State :=
  let t := nat2 f.body 1
  if t ≤ Config.fullyOpen then
    (((s.senseEndStop endStop).startHold t).promptFlags s).report f []
  else (s.answer f .range [] .plain).1

/-! ### The dump (R180, R181) -/

/-- From a cursor's place on, the next entry of the live table with its chain and position, none past
chain 7 (R180). The number counts the chains left to look in. -/
def seek (table : List Entry) : Nat → Nat → Nat → Option (Nat × Nat × Entry)
  | 0, _, _ => none
  | left + 1, k, position =>
    match (chain table k)[position]? with
    | some e => some (k, position, e)
    | none => seek table left (k + 1) 0

/-- The figures of a dump RESULT without an entry. -/
def noEntry : List Byte := [3, 255, 255]

/-- A dump RESULT is placed for the requester; if it cannot be placed the dump ends (R180, R181). -/
def State.placeDump (s : State) (d : Dump) (last : Bool) (aborted : Bool) (figures : List Byte) :
    State :=
  let s1 := s.onResponder fun r => { r with dump := some { d with nextDue := false } }
  let p := s1.placeReply .result d.requester
    (resultBody (byte Request.dump.code) .done last aborted figures) (.dump last)
  if p.2 then p.1 else p.1.endDump

/-- A dump RESULT is built from the live table, or with LAST and ABORTED if the abort mark is set, and
placed (R180 to R182). A RESULT without an entry leaves the cursor where it was (log entry 34). -/
def State.buildDump (s : State) (d : Dump) : State :=
  if d.abort then s.placeDump d true true noEntry
  else match seek s.member.table (8 - d.chain) d.chain d.position with
    | some (k, position, e) =>
      s.placeDump
        { d with chain := k, position := position + 1, remaining := d.remaining - 1 }
        (d.remaining - 1 == 0) false (foundFigures k position e)
    | none => s.placeDump d true false noEntry

/-- A DUMP query is carried out: a dump begins at its start chain with its count (R180). -/
def State.beginDump (s : State) (f : Frame) : State :=
  s.buildDump
    { requester := f.src.toNat, chain := nat1 f.body 1, position := 0, remaining := nat1 f.body 2,
      abort := false, nextDue := false }

/-- The next RESULT of a dump is built when the one before it has left the queue (R181, R182). -/
def State.continueDump (s : State) : State :=
  match s.responder.dump with
  | none => s
  | some d => if d.nextDue then s.buildDump d else s

/-! ### RESTART (R179, R182) -/

/-- The queue holds a dump RESULT that carries LAST. -/
def Line.lastQueued (l : Line) : Bool := l.queue.any fun e => e.use == .dump true

/-- A RESTART order waits for its answering RESULTs, or is handed on at once if none is awaited. -/
def State.restartWaits (s : State) (done dumpEnd : Bool) : State :=
  (s.onResponder fun r => { r with waiting := r.waiting ++ [{ done, dumpEnd }] }).handRestarts

/-- A RESTART order is taken (R179; R182 while a dump is in flight; log entry 19 where its LAST is
queued). -/
def State.carryRestart (s : State) (f : Frame) : State :=
  match s.responder.dump with
  | none =>
    let p := s.answer f .done [] .restart
    p.1.restartWaits p.2 false
  | some d =>
    let s1 := s.onResponder fun r =>
      { r with dump := some { d with abort := d.abort || !s.line.lastQueued } }
    if f.src.toNat == d.requester then s1.restartWaits false true
    else
      let p := s1.answer f .done [] .restart
      p.1.restartWaits p.2 (!d.abort)

end Sys2Proof.Machine
end

