-- ==== Sys2Proof/Machine/ServiceCommands.lean ====
section
/-! DEFINITION. The commands of the service responder: the queries, the orders, the dump (10). -/

namespace Sys2Proof.Machine

/-- PEER (R174). -/
def execPeer (s : State) : Outcome :=
  .next <| s.serve .peer fun f t => t.report f (peerFigures t.member.table (nat1 f.body 1))

/-- STATUS (R175). -/
def execStatus (s : State) : Outcome := .next <| s.serve .status fun f t => t.reportStatus f

/-- SHARE (R176). -/
def execShare (s : State) : Outcome :=
  .next <| s.serve .share fun f t => t.report f (t.share.record.bytes t.role)

/-- PLANT (R176). -/
def execPlant (s : State) : Outcome :=
  .next <| s.serve .plant fun f t => t.report f (t.plantFigures (nat1 f.body 1))

/-- DUMP (R180). -/
def execDump (s : State) : Outcome := .next <| s.serve .dump fun f t => t.beginDump f

/-- CLEAR (R177). -/
def execClear (endStop : Bool) (s : State) : Outcome :=
  .next <| s.serve .clear fun f t => t.carryClear f endStop

/-- REHOME (R178). -/
def execRehome (endStop : Bool) (s : State) : Outcome :=
  .next <| s.serve .rehome fun f t => t.carryRehome f endStop

/-- HOLD (R178). -/
def execHold (endStop : Bool) (s : State) : Outcome :=
  .next <| s.serve .hold fun f t => t.carryHold f endStop

/-- RESTART (R179, R182). -/
def execRestart (s : State) : Outcome := .next <| s.serve .restart fun f t => t.carryRestart f

/-- DUMP_NEXT_RESULT (R181, R182). -/
def execDumpNextResult (s : State) : Outcome := .next <| s.take State.continueDump

end Sys2Proof.Machine
end

