-- ==== Sys2Proof/Machine/Dispatch.lean ====
section
/-! DEFINITION. The one match that dispatches a command to its meaning. -/

namespace Sys2Proof.Machine

/-- A command's effect on everything but the queue of waiting commands. -/
def exec (i : Instr) (s : State) : Host.Outcome State Fault Refusal :=
  match i with
  | .reset role address contact1 contact2 => Sys2Proof.Machine.execReset role address contact1 contact2 s
  | .startEnd image => Sys2Proof.Machine.execStartEnd image s
  | .joinWindowExpiry => Sys2Proof.Machine.execJoinWindowExpiry s
  | .rollCallWaitExpiry => Sys2Proof.Machine.execRollCallWaitExpiry s
  | .duplicateHoldExpiry => Sys2Proof.Machine.execDuplicateHoldExpiry s
  | .agingExpiry => Sys2Proof.Machine.execAgingExpiry s
  | .lineQuietExpiry => Sys2Proof.Machine.execLineQuietExpiry s
  | .announce => Sys2Proof.Machine.execAnnounce s
  | .plantStatus => Sys2Proof.Machine.execPlantStatus s
  | .rollCall => Sys2Proof.Machine.execRollCall s
  | .present => Sys2Proof.Machine.execPresent s
  | .setpoint => Sys2Proof.Machine.execSetpoint s
  | .setpointReply => Sys2Proof.Machine.execSetpointReply s
  | .result => Sys2Proof.Machine.execResult s
  | .unknownKindFrame => Sys2Proof.Machine.execUnknownKindFrame s
  | .tableWriteApplied => Sys2Proof.Machine.execTableWriteApplied s
  | .snapshotEnd unit => Sys2Proof.Machine.execSnapshotEnd unit s
  | .peer => Sys2Proof.Machine.execPeer s
  | .status => Sys2Proof.Machine.execStatus s
  | .share => Sys2Proof.Machine.execShare s
  | .plant => Sys2Proof.Machine.execPlant s
  | .dump => Sys2Proof.Machine.execDump s
  | .clear endStop => Sys2Proof.Machine.execClear endStop s
  | .rehome endStop => Sys2Proof.Machine.execRehome endStop s
  | .hold endStop => Sys2Proof.Machine.execHold endStop s
  | .restart => Sys2Proof.Machine.execRestart s
  | .restartCarriedOut => Sys2Proof.Machine.execRestartCarriedOut s
  | .dumpNextResult => Sys2Proof.Machine.execDumpNextResult s
  | .sampleTimerExpiry first second => Sys2Proof.Machine.execSampleTimerExpiry first second s
  | .contactLevelChange contact level => Sys2Proof.Machine.execContactLevelChange contact level s
  | .debounceExpiry contact => Sys2Proof.Machine.execDebounceExpiry contact s
  | .announcePeriodExpiry => Sys2Proof.Machine.execAnnouncePeriodExpiry s
  | .spacingExpiry => Sys2Proof.Machine.execSpacingExpiry s
  | .shareReckoningEnd endStop => Sys2Proof.Machine.execShareReckoningEnd endStop s
  | .alignmentEnd endStop => Sys2Proof.Machine.execAlignmentEnd endStop s
  | .homingStep stall endStop => Sys2Proof.Machine.execHomingStep stall endStop s
  | .moveStep stall endStop => Sys2Proof.Machine.execMoveStep stall endStop s
  | .settleEnd => Sys2Proof.Machine.execSettleEnd s
  | .holdTimerExpiry endStop => Sys2Proof.Machine.execHoldTimerExpiry endStop s
  | .plantTimerExpiry => Sys2Proof.Machine.execPlantTimerExpiry s
  | .plantReckoningEnd => Sys2Proof.Machine.execPlantReckoningEnd s
  | .minOnExpiry => Sys2Proof.Machine.execMinOnExpiry s
  | .minOffExpiry => Sys2Proof.Machine.execMinOffExpiry s
  | .dwellExpiry => Sys2Proof.Machine.execDwellExpiry s
  | .changeoverPauseExpiry => Sys2Proof.Machine.execChangeoverPauseExpiry s
  | .frostTimerExpiry => Sys2Proof.Machine.execFrostTimerExpiry s
  | .tripTimerExpiry => Sys2Proof.Machine.execTripTimerExpiry s
  | .defrostOverlongExpiry => Sys2Proof.Machine.execDefrostOverlongExpiry s
  | .statusPeriodExpiry => Sys2Proof.Machine.execStatusPeriodExpiry s
  | .statusSpacingExpiry => Sys2Proof.Machine.execStatusSpacingExpiry s
  | .receivedFrame bytes => Sys2Proof.Machine.execReceivedFrame bytes s
  | .framingError idleBits lineHeld => Sys2Proof.Machine.execFramingError idleBits lineHeld s
  | .truncated bytes => Sys2Proof.Machine.execTruncated bytes s
  | .length bytes => Sys2Proof.Machine.execLength bytes s
  | .attemptStart idleBits => Sys2Proof.Machine.execAttemptStart idleBits s
  | .transmissionComplete => Sys2Proof.Machine.execTransmissionComplete s
  | .lostAttempt matched wrong goesOn => Sys2Proof.Machine.execLostAttempt matched wrong goesOn s
  | .stuck => Sys2Proof.Machine.execStuck s
  | .stuckEnd => Sys2Proof.Machine.execStuckEnd s
  | .resetAsserted => Sys2Proof.Machine.execResetAsserted s

end Sys2Proof.Machine
end

