-- ==== Sys2Proof/Machine/Step.lean ====
section
/-! DEFINITION. One step of the part: the command at the front of the queue, or, on an empty queue, a
millisecond of the part's clock. -/

namespace Sys2Proof.Machine

/-- A millisecond passes. While the reset is asserted no timer runs and the clock stands (log entries
1, 22). -/
def State.tick (s : State) : State := if s.held then s else { s with now := s.now + 1 }

/-- The command at the front is taken, and `exec` has its effect on the state with the rest of the
queue; with no command waiting a millisecond passes. -/
def step (s : State) : Host.Outcome State Fault Refusal :=
  match s.pending with
  | [] => .next s.tick
  | c :: rest => exec c { s with pending := rest }

/-- The command that a word spells is put at the front of the queue; the table gives no bits, so no
word spells one. -/
def State.withFetchWord (s : State) (nbits w : Nat) : State :=
  match decodeTableWord nbits w with
  | some c => { s with pending := c :: s.pending }
  | none => s

end Sys2Proof.Machine
end

