-- ==== Sys2Proof/Safety.lean ====
section
/-! DEFINITION. What counts as a coherent state, in the terms the statements use: the ranges and
relations the rules give the fields of each block. A safe run is one whose every state meets them. -/

namespace Sys2Proof.Machine

/-! ### The configuration product (R186, R187) -/

/-- Every field of a product lies in its range, and the table never decreases. -/
abbrev productWf (c : Config.Product) : Prop :=
  c.table.length = 9 ∧ c.table.Pairwise (· ≤ ·) ∧ (∀ t ∈ c.table, t ≤ 1200) ∧ c.fallback ≤ 1200 ∧
  (2 ≤ c.qd ∧ c.qd ≤ 80) ∧ c.relief ≤ 80 ∧ (1 ≤ c.weight ∧ c.weight ≤ 4) ∧
  (5 ≤ c.band ∧ c.band ≤ 40) ∧ c.posMin ≤ 300 ∧
  (100 ≤ c.heat ∧ c.heat ≤ 300) ∧ (120 ≤ c.cool ∧ c.cool ≤ 320) ∧
  (35 ≤ c.humidity ∧ c.humidity ≤ 70) ∧ (0 ≤ c.setback ∧ c.setback ≤ 60) ∧
  (0 ≤ c.lockSpan ∧ c.lockSpan ≤ 30) ∧
  (20 ≤ c.qmax ∧ c.qmax ≤ 400) ∧ (4 ≤ c.qminHeat ∧ c.qminHeat ≤ c.qmax) ∧
  (4 ≤ c.qminCool ∧ c.qminCool ≤ c.qmax) ∧ (4 ≤ c.qminDry ∧ c.qminDry ≤ c.qmax) ∧
  (4 ≤ c.qpurge ∧ c.qpurge ≤ c.qmax) ∧ (2 ≤ c.slew ∧ c.slew ≤ 20) ∧
  (15 ≤ c.kmin ∧ c.kmin ≤ 40) ∧ (50 ≤ c.margin ∧ c.margin ≤ 400) ∧
  (300 ≤ c.dwell ∧ c.dwell ≤ 1800) ∧ c.qbp ≤ 200

/-- The image is present and passes its check (R185). -/
abbrev imageGood (image : List Byte) : Prop :=
  64 ≤ image.length ∧ byteAt image 0 = 0xA5 ∧
  checkSums (image.take 62) = (nat1 image 62, nat1 image 63)

/-- A field of the role-independent part lies outside its range, or the entries of the table, once held
to theirs, decrease (R186, R187, R192). -/
def commonOutside (image : List Byte) : Prop :=
  (∃ i, i < 9 ∧ 1200 < nat2 image (1 + 2 * i)) ∨
  (∃ i, i < 8 ∧
    clampNat (nat2 image (1 + 2 * (i + 1))) 0 1200 < clampNat (nat2 image (1 + 2 * i)) 0 1200) ∨
  1200 < nat2 image 19

/-- A field of the zone part lies outside its range (R186, R192). -/
def zoneOutside (image : List Byte) : Prop :=
  nat1 image 22 ∉ Set.Icc 2 80 ∨ 80 < nat1 image 23 ∨ nat1 image 24 ∉ Set.Icc 1 4 ∨
  nat1 image 25 ∉ Set.Icc 5 40 ∨ 300 < nat2 image 26 ∨ int2 image 28 ∉ Set.Icc 100 300 ∨
  int2 image 30 ∉ Set.Icc 120 320 ∨ nat1 image 32 ∉ Set.Icc 35 70 ∨ 60 < nat1 image 33 ∨
  1 < nat1 image 34 ∨ 30 < nat1 image 35 ∨ 1 < nat1 image 36 ∨ 1 < nat1 image 37

/-- A field of the plant part lies outside its range, which for the Qmin fields and Qpurge ends at
Qmax as held to its own (R186, R192). -/
def plantOutside (image : List Byte) : Prop :=
  nat2 image 38 ∉ Set.Icc 20 400 ∨
  (∃ i ∈ [40, 42, 44, 46], nat2 image i ∉ Set.Icc 4 (clampNat (nat2 image 38) 20 400)) ∨
  nat1 image 48 ∉ Set.Icc 2 20 ∨ nat1 image 49 ∉ Set.Icc 15 40 ∨ nat2 image 50 ∉ Set.Icc 50 400 ∨
  nat2 image 52 ∉ Set.Icc 300 1800 ∨ 200 < nat1 image 54

/-! ### The peer table (R12, R13, R17) -/

abbrev ZoneRecord.wf (r : ZoneRecord) : Prop :=
  r.demand ≤ 100 ∧ (1 ≤ r.weight ∧ r.weight ≤ 4) ∧ (2 ≤ r.qd ∧ r.qd ≤ 80) ∧ r.relief ≤ 80 ∧
  (-400 ≤ r.temperature ∧ r.temperature ≤ 850) ∧ r.humidity ≤ 100 ∧ r.position ≤ 1000

abbrev PlantRecord.wf (r : PlantRecord) : Prop :=
  r.qb ≤ 400 ∧ r.qminEff ≤ 400 ∧ (20 ≤ r.qmax ∧ r.qmax ≤ 400) ∧ r.kc ≤ 100

/-- A record's fields lie in their stored ranges (R13). -/
def Record.wf : Record → Bool
  | .zone r => decide r.wf
  | .plant r => decide r.wf

/-- An entry: an address of another station, an age that leaves it in the table, STALE exactly from its
stale limit on, and a record in its ranges. -/
abbrev Entry.wf (own : Nat) (e : Entry) : Prop :=
  (1 ≤ e.address ∧ e.address ≤ 63) ∧ e.address ≠ own ∧ e.age ≤ 179 ∧ e.heard ≤ 255 ∧
  (e.standing = .stale ↔ staleLimit e.role ≤ e.age) ∧ e.record.wf = true

/-- The peer table: at most 24 entries, one for an address, the chains end to end, chain 0 first
(R12). -/
abbrev Table.wf (own : Nat) (table : List Entry) : Prop :=
  table.length ≤ 24 ∧ (table.map Entry.address).Nodup ∧
  table.Pairwise (fun a b => chainOf a.address ≤ chainOf b.address) ∧ ∀ e ∈ table, e.wf own

/-- A frame that may wait as the handler's current frame: an ANNOUNCE or a PLANT STATUS of another
station (R13, R23). -/
abbrev Frame.tabled (own : Nat) (f : Frame) : Prop :=
  (f.isKind .announce = true ∨ f.isKind .plantStatus = true) ∧ f.src.toNat ≠ 0 ∧ f.src.toNat ≠ own

/-- The table, and the frame that waits to be written to it, are well formed. -/
abbrev State.TableWf (s : State) : Prop :=
  Table.wf s.address s.member.table ∧ ∀ f ∈ s.line.current, f.tabled s.address

/-! ### Reckonings and the occupation (R19, R23, R63, R107) -/

/-- A pending mark stands only with a reckoning in flight, aging is deferred and an emptying waits only
while the table is occupied, and the followed plant is the one the table gives, or none while an
emptying waits. -/
abbrev State.ReckoningWf (s : State) : Prop :=
  (s.share.mark = true → s.share.flight.isSome = true) ∧
  (s.plant.mark = true → s.plant.flight.isSome = true) ∧
  (0 < s.member.deferred → s.occupied = true) ∧
  (s.member.emptying.isSome = true → s.occupied = true) ∧
  s.member.followed =
    (if s.member.emptying.isSome then none else followedOf s.role s.member.table)

/-! ### The station state (R1 to R10, R17, R22, R25, R105) -/

/-- The queue holds only what the station state allows, and each timer of the station state runs
exactly in the states that own it, the roll-call wait only in CLAIM. -/
abbrev State.StationWf (s : State) : Prop :=
  (∀ e ∈ s.line.queue, s.member.station.allows e.kind = true) ∧
  s.startTimer.isRunning = (s.member.station == .start) ∧
  s.member.joinWindow.isRunning = (s.member.station == .listen) ∧
  (s.member.rollCallWait.isRunning = true → s.member.station = .claim) ∧
  s.member.duplicateHold.isRunning = (s.member.station == .duplicate) ∧
  s.member.lineQuiet.isRunning = (s.member.station == .online) ∧
  s.member.aging.isRunning = (s.member.station != .start) ∧
  s.sensing.sample.isRunning = (s.member.station != .start) ∧
  s.plant.timer.isRunning = (s.role == .plant && s.member.station != .start)

/-! ### The line controller (R163, R165, R167, R169) -/

/-- At most one periodic frame and three replies, one of them in flight at most, each reply with its
body and a periodic frame with one only in flight; two received frames at most; a wait period only on
an idle line that is not stuck, with a frame queued and none in flight; and part of an echo only with a
frame in flight that goes on beyond it. -/
abbrev State.LineWf (s : State) : Prop :=
  (s.line.queue.filter fun e => e.kind.periodic).length ≤ 1 ∧
  (s.line.queue.filter fun e => !e.kind.periodic).length ≤ 3 ∧
  (s.line.queue.filter TxEntry.inFlight).length ≤ 1 ∧
  (∀ e ∈ s.line.queue, e.lost ≤ 15 ∧ e.body.isSome = (e.inFlight || !e.kind.periodic)) ∧
  s.line.pair.length ≤ 2 ∧ s.line.sequence < 256 ∧
  (∀ x ∈ s.line.wait, x ≤ 7 ∧ s.line.idle = true ∧ s.line.stuck = false ∧
    s.line.sending = none ∧ s.line.queue ≠ []) ∧
  (s.line.sending = none → s.line.echoed = 0) ∧
  (∀ e ∈ s.line.sending, s.line.echoed < (s.frameOf e).bytes.length)

/-! ### Sensing, setpoints, demand (R26 to R31, R34, R45, R49 to R51) -/

/-- A channel's raw values lie in lo..hi (02, section 2.1). -/
abbrev Channel.wf (lo hi : Int) (c : Channel) : Prop :=
  c.bad ≤ 5 ∧ c.good ≤ 3 ∧ (c.bad = 0 ∨ c.good = 0) ∧ ∀ v ∈ c.filtered, lo ≤ v ∧ v ≤ hi

/-- The channels of both roles. -/
abbrev State.SensingWf (s : State) : Prop :=
  (s.role = .zone → s.sensing.first.wf 0 600 ∧ s.sensing.second.wf 0 1000) ∧
  (s.role = .plant → s.sensing.first.wf (-300) 850 ∧ s.sensing.second.wf (-300) 850)

/-- Figures in their ranges, the cool figure at least 20 above the heat figure (R34). -/
abbrev Figures.wf (g : Figures) : Prop :=
  (100 ≤ g.heat ∧ g.heat ≤ 300) ∧ (120 ≤ g.cool ∧ g.cool ≤ 320) ∧ g.heat + 20 ≤ g.cool ∧
  (35 ≤ g.humidity ∧ g.humidity ≤ 70)

/-- The product and the setpoint store are in their ranges. -/
abbrev State.SetpointsWf (s : State) : Prop :=
  productWf s.cfg ∧ s.setpoints.figures.wf ∧ s.setpoints.home.wf

/-- D is the figure of the wanted mode, and a wanted mode stands with a D of at least 1. -/
abbrev State.DemandWf (s : State) : Prop :=
  s.demand.dHeat ≤ 100 ∧ s.demand.dCool ≤ 100 ∧ s.demand.dDry ≤ 100 ∧
  s.demand.demand = s.demand.figure s.demand.wanted ∧
  (s.demand.wanted ≠ .none → 1 ≤ s.demand.demand) ∧
  (s.demand.dHeat = 0 ∨ s.demand.dCool = 0)

/-! ### The damper drive (R84 to R96) -/

/-- What the state of the drive says of its count and its timers. -/
abbrev Drive.stateWf (d : Drive) : Prop :=
  (d.state = .unhomed → d.count = none ∧ d.step = .stopped ∧ d.alignment.isRunning = true) ∧
  (d.state = .homing → d.count = none ∧ d.step.isRunning = true ∧ d.homingSteps < 1320) ∧
  (d.state = .idle → d.count = some d.target ∧ d.step = .stopped) ∧
  (d.state = .moving →
    d.step.isRunning = true ∧ d.count.isSome = true ∧ d.count ≠ some d.target) ∧
  (d.state = .fault → d.count = none ∧ d.step = .stopped ∧ d.phasesOn = false)

/-- Positions within 0..1200, counters within their ranges, and the relations between the drive's
state and its other items. -/
abbrev Drive.wf (d : Drive) : Prop :=
  d.stateWf ∧ d.target ≤ 1200 ∧ (∀ p ∈ d.count, p ≤ 1200) ∧
  (d.cause = .none ↔ d.state ≠ .fault) ∧ (d.retry = true → d.state = .homing) ∧
  d.stallCount ≤ 2 ∧ (d.stallCount = 2 → d.state = .fault) ∧
  d.sinceStop ≤ 1320 ∧ d.stuckSteps ≤ 24 ∧ (d.stuckSteps = 24 → d.state = .fault) ∧
  d.completed ≤ 255 ∧ d.slipCount ≤ 255 ∧ (d.settle.isRunning = true → d.state = .idle) ∧
  (d.alignment.isRunning = true → d.state = .unhomed) ∧
  (d.aligned = true → d.state = .unhomed ∨ (d.state = .homing ∧ d.homingSteps = 0))

/-- The drive, and the positions that can be handed to it. -/
abbrev State.DriveWf (s : State) : Prop :=
  s.drive.wf ∧ s.share.standing ≤ 1200 ∧ s.cfg.fallback ≤ 1200 ∧ s.cfg.posMin ≤ 1200 ∧
  ∀ t ∈ s.cfg.table, t ≤ 1200

/-! ### The plant sequencer (R104 to R155) -/

def PlantMode.running : PlantMode → Bool
  | .heat => true
  | .cool => true
  | .dry => true
  | .idle => false
  | .changeover => false
  | .lockout => false

/-- The arbitration state: which flags, timers and cause stand with which plant state. -/
abbrev Arbitration.wf (a : Arbitration) : Prop :=
  a.valve = (a.mode == .heat) ∧ (a.startHeld = true → a.mode = .idle) ∧
  (a.runHeld = true → a.mode.running = true) ∧
  (a.minOn = .stopped ↔ a.mode.running = false) ∧ (a.dwell = .stopped ↔ a.mode.running = false) ∧
  (a.minOff = .stopped ↔ a.mode.running = true) ∧ a.pause ≠ .expired ∧
  (a.pause.isRunning = true → a.mode = .changeover) ∧ (a.cause = .none ↔ a.mode ≠ .lockout)

/-- The protection state under a plant state. -/
abbrev Protection.wf (mode : PlantMode) (p : Protection) : Prop :=
  (p.guard = true → mode.coolSide = true) ∧ (p.trip = true → mode.coolSide = true) ∧
  (p.tripTimer = .stopped ↔ p.trip = false) ∧ (p.frostTimer ≠ .stopped → p.guard = true) ∧
  (p.highLimit = true → mode = .heat ∧ p.defrost = false) ∧ (p.defrost = true → mode = .heat) ∧
  p.boost ≤ 5 ∧ (p.highLimit = false → p.boost = 0) ∧ p.tripCount ≤ 3 ∧
  p.heldCapacity.isSome = p.defrost ∧ (p.overlong = .stopped ↔ p.defrost = false) ∧
  (p.overlongFlag = true → p.defrost = true)

/-- The equipment outputs show Kc and Qb, and in IDLE and LOCKOUT both are 0 (R132, R135). -/
abbrev Air.wf (c : Config.Product) (mode : PlantMode) (a : Air) : Prop :=
  a.call = decide (0 < a.kc) ∧ a.capOut = a.kc ∧ a.fanOut = fanDemand c a.qb ∧
  ((mode = .idle ∨ mode = .lockout) → a.qt = 0 ∧ a.qb = 0 ∧ a.kc = 0)

/-- What a plant reckoning in flight noted still stands, unless it has been made void, the frost guard
noted in the cool side alone (R108, R143, R144). -/
abbrev PlantFlight.agrees (online : Bool) (a : Arbitration) (p : Protection) (f : PlantFlight) : Prop :=
  f.void = false → f.arb.mode = a.mode ∧ f.arb.cause = a.cause ∧ f.prot.defrost = p.defrost ∧
    f.prot.trip = p.trip ∧ (f.prot.guard = true → f.arb.mode.coolSide = true) ∧
    (f.online = true → online = true) ∧
    (a.pause.isRunning = true → f.arb.pause.isRunning = true)

/-- The plant sequencer; outside ONLINE, and in the zone role, the plant state is IDLE. -/
abbrev State.PlantWf (s : State) : Prop :=
  s.plant.arb.wf ∧ s.plant.prot.wf s.plant.arb.mode ∧ s.plant.air.wf s.cfg s.plant.arb.mode ∧
  (s.member.station ≠ .online → s.plant.arb.mode = .idle) ∧
  (s.role = .zone → s.plant.arb.mode = .idle ∧ s.plant.flight = none) ∧
  ∀ f ∈ s.plant.flight, f.agrees (s.member.station == .online) s.plant.arb s.plant.prot

/-! ### The whole -/

/-- A coherent state. -/
abbrev State.Wf (s : State) : Prop :=
  s.address ≤ 63 ∧ s.TableWf ∧ s.ReckoningWf ∧ s.StationWf ∧ s.LineWf ∧ s.SensingWf ∧ s.SetpointsWf ∧
  s.DemandWf ∧ s.DriveWf ∧ s.PlantWf

/-! ### The terms of the statements -/

/-- The share unit was told of a trigger between s and t: a reckoning is in flight after it, and one
that was in flight before is the same with its pending mark set (R63). -/
def toldShare (s t : State) : Prop :=
  t.share.flight.isSome = true ∧
  ∀ f, s.share.flight = some f → t.share.flight = some f ∧ t.share.mark = true

/-- The plant sequencer was told of a trigger between s and t (R107). -/
def toldPlant (s t : State) : Prop :=
  t.plant.flight.isSome = true ∧
  ∀ f, s.plant.flight = some f → t.plant.flight = some f ∧ t.plant.mark = true

/-- The frame a frame command takes from the receive pair. -/
def takesFrame : Instr → Frame → Bool
  | .announce, f => f.isKind .announce
  | .plantStatus, f => f.isKind .plantStatus
  | .rollCall, f => f.isKind .rollCall
  | .present, f => f.isKind .present
  | .setpoint, f => f.isKind .setpoint
  | .setpointReply, f => f.isKind .setpointReply
  | .result, f => f.isKind .result
  | .unknownKindFrame, f => f.form == none
  | .peer, f => f.makes .peer
  | .status, f => f.makes .status
  | .share, f => f.makes .share
  | .plant, f => f.makes .plant
  | .dump, f => f.makes .dump
  | .clear _, f => f.makes .clear
  | .rehome _, f => f.makes .rehome
  | .hold _, f => f.makes .hold
  | .restart, f => f.makes .restart
  | _, _ => false

/-- The frame f is the older frame of the pair, with `rest` behind it, and the frame handler holds no
other (R164). -/
structure State.atFront (s : State) (f : Frame) (rest : List Frame) : Prop where
  running : s.held = false
  free : s.line.current = none
  front : s.line.pair = f :: rest

/-- The state with the older frame of the pair taken. -/
abbrev State.taken (s : State) (rest : List Frame) : State :=
  { s with line := { s.line with pair := rest } }

/-- The command c writes the frame f of another station to the table: it is tabled from the pair, or
written after its wait (R13, R23). -/
structure writesTable (c : Instr) (f : Frame) (s : State) : Prop where
  running : s.held = false
  started : s.member.station ≠ .start
  free : s.occupied = false
  source : f.src.toNat ≠ 0 ∧ f.src.toNat ≠ s.address
  how :
    (s.line.current = none ∧ (∃ rest, s.line.pair = f :: rest) ∧
      ((c = .announce ∧ f.isKind .announce = true) ∨
        (c = .plantStatus ∧ f.isKind .plantStatus = true))) ∨
    (c = .tableWriteApplied ∧ s.line.current = some f ∧
      (f.isKind .announce = true ∨ f.isKind .plantStatus = true))

/-- The replies held in the transmit queue (R165). -/
def Line.replies (l : Line) : Nat := (l.queue.filter fun e => !e.kind.periodic).length

/-- The line after a reply was dropped for want of a reply position (R165). -/
abbrev Line.dropped (l : Line) : Line :=
  { l with
    latches := { l.latches with replyDropped := true }
    counters := { l.counters with replyDropped := min 255 (l.counters.replyDropped + 1) } }

/-- Each RESTART order that waits awaits a RESULT (R179, R182). -/
abbrev Responder.orderly (r : Responder) : Prop :=
  ∀ w ∈ r.waiting, w.done = true ∨ w.dumpEnd = true

/-- The command that handles a request. -/
def Request.command (endStop : Bool) : Request → Instr
  | .peer => .peer
  | .status => .status
  | .share => .share
  | .plant => .plant
  | .dump => .dump
  | .clear => .clear endStop
  | .rehome => .rehome endStop
  | .hold => .hold endStop
  | .restart => .restart

/-- A request of another station stands at the front, in ONLINE with a reply position free. -/
structure State.asked (s : State) (f : Frame) (rest : List Frame) : Prop where
  front : s.atFront f rest
  online : s.member.station = .online
  addressed : f.dest.toNat ≠ 0 ∧ f.src.toNat ≠ 0 ∧ f.src.toNat ≠ s.address
  room : s.line.replies < 3

/-- A request of another station stands at the front, after START, whether it can be answered or not. -/
structure State.ordered (s : State) (f : Frame) (rest : List Frame) : Prop where
  front : s.atFront f rest
  started : s.member.station ≠ .start
  addressed : f.dest.toNat ≠ 0 ∧ f.src.toNat ≠ 0 ∧ f.src.toNat ≠ s.address

/-- The entry of a RESULT placed for a destination. -/
def resultEntry (dest : Nat) (body : List Byte) (use : ResultUse) : TxEntry :=
  { kind := .result, dest, body := some body, lost := 0, inFlight := false, use }

/-- The place the dump's walk finds from a cursor: the cursor's own place, or the head of the first
later chain that holds an entry (R180). -/
def walkFinds (table : List Entry) (c position k i : Nat) (e : Entry) : Prop :=
  (chain table k)[i]? = some e ∧ k ≤ 7 ∧
  ((k = c ∧ i = position) ∨
    (c < k ∧ i = 0 ∧ (chain table c)[position]? = none ∧
      ∀ j, c < j → j < k → chain table j = []))

/-- The walk runs past chain 7 (R180). -/
def walkEnds (table : List Entry) (c position : Nat) : Prop :=
  (chain table c)[position]? = none ∧ ∀ j, c < j → j ≤ 7 → chain table j = []

/-- A channel before and after one conversion result, its raw range being lo..hi (R26 to R29). -/
def sampled (lo hi : Int) (r : Conversion) (c c' : Channel) : Prop :=
  (∀ v, r = .value v → lo ≤ v → v ≤ hi →
    c'.bad = 0 ∧ c'.good = min 3 (c.good + 1) ∧
    (c.fault = false → c'.fault = false ∧
      c'.filtered = some (match c.filtered with
        | none => v
        | some f => f + (v - f).tdiv 4)) ∧
    (c.fault = true → 2 ≤ c.good → c'.fault = false ∧ c'.filtered = some v) ∧
    (c.fault = true → c.good < 2 → c'.fault = true ∧ c'.filtered = c.filtered)) ∧
  ((∀ v, r = .value v → v < lo ∨ hi < v) →
    c'.good = 0 ∧ c'.bad = min 5 (c.bad + 1) ∧ c'.filtered = c.filtered ∧
    c'.fault = (c.fault || decide (4 ≤ c.bad)))

/-- The wanted mode that stands in t after an evaluation that found `old` (R47 to R50). -/
def evaluated (old : WantedMode) (t : State) : Prop :=
  let tf := t.sensing.first.filtered.getD 0
  let humid := 20 ≤ t.demand.dDry ∧ t.sensing.second.usable = true ∧ t.heatEff + 10 ≤ tf
  let suppressed := t.sensing.first.usable = false ∨ t.windowOpen = true
  (suppressed → t.demand.wanted = .none) ∧
  (¬suppressed →
    (old = .none → 10 ≤ t.demand.dHeat → t.demand.wanted = .heat) ∧
    (old = .none → t.demand.dHeat < 10 → 10 ≤ t.demand.dCool → t.demand.wanted = .cool) ∧
    (old = .none → t.demand.dHeat < 10 → t.demand.dCool < 10 → humid → t.demand.wanted = .dry) ∧
    (old = .none → t.demand.dHeat < 10 → t.demand.dCool < 10 → ¬humid → t.demand.wanted = .none) ∧
    (old = .heat → t.demand.wanted = if t.demand.dHeat = 0 then .none else .heat) ∧
    (old = .cool → 0 < t.demand.dCool → t.demand.wanted = .cool) ∧
    (old = .cool → t.demand.dCool = 0 → humid → t.demand.wanted = .dry) ∧
    (old = .cool → t.demand.dCool = 0 → ¬humid → t.demand.wanted = .none) ∧
    (old = .dry → 10 ≤ t.demand.dCool → t.demand.wanted = .cool) ∧
    (old = .dry → t.demand.dCool < 10 →
      (t.demand.dDry = 0 ∨ t.sensing.second.usable = false ∨ tf < t.heatEff + 5) →
      t.demand.wanted = .none) ∧
    (old = .dry → t.demand.dCool < 10 → t.demand.dDry ≠ 0 → t.sensing.second.usable = true →
      t.heatEff + 5 ≤ tf → t.demand.wanted = .dry)) ∧
  t.demand.demand = t.demand.figure t.demand.wanted ∧
  t.demand.reliefAvailable = (!t.windowOpen && t.sensing.first.usable)

/-- The demands that stand in t after a recompute (R43, R44, R46). -/
def recomputed (t : State) : Prop :=
  let tf := t.sensing.first.filtered.getD 0
  let rhf := t.sensing.second.filtered.getD 0
  let setback := if t.vacant then t.cfg.setback else 0
  let eh := t.setpoints.figures.heat - setback - tf
  let ec := tf - (t.setpoints.figures.cool + setback)
  t.demand.unoccupied = t.vacant ∧
  (t.demand.dHeat : Int) =
    (if t.sensing.first.usable then max 0 (min 100 ((eh * 100).tdiv t.cfg.band)) else 0) ∧
  (t.demand.dCool : Int) =
    (if t.sensing.first.usable then max 0 (min 100 ((ec * 100).tdiv t.cfg.band)) else 0) ∧
  (t.demand.dDry : Int) =
    (if t.sensing.second.usable then
      max 0 (min 100 (rhf - 10 * t.setpoints.figures.humidity)) else 0)

/-- What an evaluation tells the share unit (R51): trigger 1 exactly if the wanted mode, D or the
relief-available flag changed. -/
def shareToldOfDemand (s t : State) : Prop :=
  ((t.demand.wanted ≠ s.demand.wanted ∨ t.demand.demand ≠ s.demand.demand ∨
      t.demand.reliefAvailable ≠ s.demand.reliefAvailable) → toldShare s t) ∧
  (t.demand.wanted = s.demand.wanted → t.demand.demand = s.demand.demand →
    t.demand.reliefAvailable = s.demand.reliefAvailable → t.share = s.share)

/-- The sum of w × D over the FRESH ZONE entries that want a mode (R110). -/
def wantedSum (entries : List Entry) (m : WantedMode) : Nat :=
  (((entries.filterMap Entry.freshZone).filter fun r => r.wanted == m).map fun r =>
    r.weight * r.demand).sum

/-- A running plant mode serves a wanted mode (R69). -/
def servesWanted (mode : PlantMode) (wanted : WantedMode) : Bool :=
  decide ((mode = .heat ∧ wanted = .heat) ∨
    ((mode = .cool ∨ mode = .dry) ∧ (wanted = .cool ∨ wanted = .dry)))

/-- A running plant mode serves the wanted mode of a zone record (R69, R110). -/
def servedUnder (mode : PlantMode) (r : ZoneRecord) : Bool := servesWanted mode r.wanted

/-- The claim of a counted zone under a plant mode (R71). -/
def claimUnder (mode : PlantMode) (z : Counted) : Nat :=
  if servesWanted mode z.wanted then (z.qd * max z.demand 30 + 99) / 100 else 0

/-- A counted zone is in the relief set under a plant mode (R74). -/
def relievedUnder (mode : PlantMode) (z : Counted) : Bool :=
  decide (0 < z.relief ∧ z.reliefAvailable = true ∧
    (z.wanted = .none ∨ servesWanted mode z.wanted = true))

/-- The zones a reckoning counts from its snapshot: the FRESH ZONE entries (R70). -/
def countedZones (entries : List Entry) : List Counted :=
  (entries.filterMap Entry.freshZone).map ZoneRecord.counted

/-- The figures' sums are those of the zones counted under a plant mode (R70 to R74). -/
def sumsOver (mode : PlantMode) (zones : List Counted) (g : ShareFigures) : Prop :=
  g.counted = zones.length ∧ g.claims = (zones.map (claimUnder mode)).sum ∧
  g.reliefSum = ((zones.filter (relievedUnder mode)).map Counted.relief).sum ∧
  g.pool = g.qbUsed - min g.claims g.qbUsed

/-- The airflow of a counted zone by the figures: its claim scaled, and its share of the relief (R72,
R75, R76). -/
def airflowUnder (mode : PlantMode) (g : ShareFigures) (z : Counted) : Nat :=
  (if g.qbUsed < g.claims then claimUnder mode z * g.qbUsed / g.claims else claimUnder mode z) +
  (if relievedUnder mode z then
    (if g.reliefSum ≤ g.pool then z.relief else g.pool * z.relief / g.reliefSum)
  else 0)

/-- The fields of a zone record that trigger 4 of the share reckoning names differ (R61). -/
def zoneFieldsDiffer (a b : ZoneRecord) : Prop :=
  a.wanted ≠ b.wanted ∨ a.demand ≠ b.demand ∨ a.qd ≠ b.qd ∨ a.relief ≠ b.relief ∨
    a.reliefAvailable ≠ b.reliefAvailable

/-- The fields of a plant record that trigger 2 of the share reckoning names differ (R61). -/
def plantFieldsDiffer (a b : PlantRecord) : Prop :=
  a.mode ≠ b.mode ∨ a.phases.defrost ≠ b.phases.defrost ∨ a.qb ≠ b.qb

/-- An own event of the part, from s to t, gives the station a prompt cause: in a zone a changed flag,
wanted mode or relief flag, or, where the demand unit has evaluated, a D that is 10 away from the last
announced one; in a plant a changed flag, plant state, lockout cause or phase, or a changed Qb that is 4
away from the last announced one (R56, R139). -/
def promptArises (c : Instr) (s t : State) : Prop :=
  match s.role with
  | .zone =>
    t.zoneFlags ≠ s.zoneFlags ∨ t.demand.wanted ≠ s.demand.wanted ∨
    t.demand.reliefAvailable ≠ s.demand.reliefAvailable ∨
    (((s.sensing.sample.isRunning = true ∧ ∃ a b, c = .sampleTimerExpiry a b) ∨
        (s.sensing.contact1.debounce.isRunning = true ∧ c = .debounceExpiry .first)) ∧
      ∃ d ∈ s.announcer.last, 10 ≤ max t.demand.demand d - min t.demand.demand d)
  | .plant =>
    t.plantFlags ≠ s.plantFlags ∨ t.plant.arb.mode ≠ s.plant.arb.mode ∨
    t.plant.arb.cause ≠ s.plant.arb.cause ∨ t.plant.phases ≠ s.plant.phases ∨
    (t.plant.air.qb ≠ s.plant.air.qb ∧
      ∃ q ∈ s.announcer.last, 4 ≤ max t.plant.air.qb q - min t.plant.air.qb q)

/-- A prompt cause was acted on between s and t: an unsent announcement stands as it is; with its
attempt in flight, or with the spacing timer running, the mark is set; otherwise one is queued and the
period timer starts again (R57, R140). -/
def prompted (s t : State) : Prop :=
  ((∃ e ∈ s.line.queue, e.kind = ownKind s.role ∧ e.inFlight = false) →
    t.line = s.line ∧ t.announcer = s.announcer) ∧
  ((∀ e ∈ s.line.queue, e.kind = ownKind s.role → e.inFlight = true) →
    ((∃ e ∈ s.line.queue, e.kind = ownKind s.role) ∨ s.announcer.spacing.isRunning = true) →
    t.line = s.line ∧ t.announcer = { s.announcer with waiting := true }) ∧
  ((∀ e ∈ s.line.queue, e.kind ≠ ownKind s.role) → s.announcer.spacing.isRunning = false →
    t.line.queue = s.line.queue ++
      [{ kind := ownKind s.role, dest := 0, body := none, lost := 0, inFlight := false,
         use := .plain }] ∧
    t.announcer = { s.announcer with period := .running (t.now + periodMs s.role) })

/-- The bytes of a frame as the line brings them, the first after some idle time, each of the others
within 2 byte-times of the one before (R160). -/
structure bytesOnLine (run : List LineByte) (bytes : List Byte) : Prop where
  values : run.map LineByte.value = bytes
  lead : ∀ b ∈ run.head?, 20 ≤ b.idleBits
  close : ∀ b ∈ run.tail, b.idleBits ≤ 20

end Sys2Proof.Machine
end

