-- ==== Sys2Proof/Certificates/Slice0/Obligations.lean ====
section
/-! DEFINITION. The statements for the provers. -/

open Sys2Proof Sys2Proof.Machine

/-! ### The step, reset, configuration -/

/-- A step takes the command at the front of the queue and runs it on the state with the queue's rest;
with no command waiting it is one millisecond of the clock (log entry 1: the model's choice), which a
held part does not count (log entry 22). -/
def Obligations.StepRunsTheFrontCommand : Prop :=
  (∀ (s : State) (c : Instr) (rest : List Instr), s.pending = c :: rest →
    step s = exec c { s with pending := rest }) ∧
  ∀ s : State, s.pending = [] →
    step s = .next { s with now := if s.held = true then s.now else s.now + 1 }

/-- RESET gives the states that the rules name for after power-on or reset (R1, R30, R42, R60,
R84, R104, R126, R142, R163 to R165, R171, R172, R180, R184). The fallback position 1200 of the share unit and the drive
before START ends is the model's choice (log entry 4: the loader's defaults stand until then). -/
def Obligations.ResetGivesTheResetState : Prop :=
  ∀ (s : State) (role : Role) (a : BitVec 6) (x y : Level), ∃ t,
    exec (.reset role a x y) s = .next t ∧
    t.held = false ∧ t.role = role ∧ t.address = a.toNat ∧ t.pending = s.pending ∧
    t.member.station = .start ∧ t.startTimer = .running (t.now + 150) ∧
    t.member.table = [] ∧ t.member.followed = none ∧ t.member.tableFull = false ∧
    t.member.lineQuietLatch = false ∧ t.member.tableFullCount = 0 ∧
    (t.member.joinWindow = .stopped ∧ t.member.rollCallWait = .stopped ∧
      t.member.duplicateHold = .stopped) ∧
    (t.sensing.first.filtered = none ∧ t.sensing.second.filtered = none ∧
      t.sensing.first.fault = false ∧ t.sensing.second.fault = false) ∧
    (t.demand.wanted = .none ∧ t.demand.demand = 0 ∧ t.demand.reliefAvailable = false) ∧
    (t.share.flight = none ∧ t.share.mark = false ∧ t.share.record.case = .fallback ∧
      t.share.record.cause = some .notOnline ∧ t.share.record.position = some 1200 ∧
      t.share.standing = 1200) ∧
    (t.drive.state = .unhomed ∧ t.drive.count = none ∧ t.drive.target = 1200 ∧
      t.drive.hold = .stopped ∧ t.drive.stallCount = 0 ∧ t.drive.sinceStop = 1320 ∧
      t.drive.cause = .none ∧ t.drive.slip = false ∧ t.drive.closedNotConfirmed = false) ∧
    (t.plant.arb.mode = .idle ∧ t.plant.arb.minOff = .running (t.now + 180000) ∧
      t.plant.arb.minOn = .stopped ∧ t.plant.arb.dwell = .stopped ∧
      t.plant.arb.pause = .stopped ∧ t.plant.arb.frostLockout = false ∧
      t.plant.arb.cause = .none ∧ t.plant.arb.valve = false) ∧
    (t.plant.air.qb = 0 ∧ t.plant.air.kc = 0 ∧ t.plant.air.call = false ∧
      t.plant.air.fanOut = 0 ∧ t.plant.air.capOut = 0) ∧
    (t.plant.prot.guard = false ∧ t.plant.prot.trip = false ∧ t.plant.prot.tripCount = 0 ∧
      t.plant.prot.boost = 0 ∧ t.plant.prot.defrost = false ∧ t.plant.prot.ignored = 0) ∧
    (t.line.pair = [] ∧ t.line.current = none ∧ t.line.queue = [] ∧ t.line.stuck = false ∧
      t.line.latches = LineLatches.clear ∧ t.line.counters = LineCounters.zero) ∧
    t.responder.dump = none

/-- RESET_ASSERTED holds the part: no reckoning is in flight, the motor phases and the equipment
outputs are off or 0, the alert line is released, nothing is queued to be sent; and while the part is
held no command but RESET and RESET_ASSERTED does anything (R184; log entry 22 says what the model
takes from the rule). -/
def Obligations.ResetAssertedHoldsThePart : Prop :=
  (∀ s : State, ∃ t, exec .resetAsserted s = .next t ∧
    t.held = true ∧ t.share.flight = none ∧ t.plant.flight = none ∧
    t.drive.phaseOutputs = 0 ∧ t.plant.air.call = false ∧ t.plant.air.fanOut = 0 ∧
    t.plant.air.capOut = 0 ∧ t.plant.arb.valve = false ∧ t.alertDriven = false ∧
    t.line.queue = [] ∧ t.pending = s.pending) ∧
  ∀ (s : State) (c : Instr), s.held = true →
    (∀ role a x y, c ≠ .reset role a x y) → c ≠ .resetAsserted → exec c s = .next s

/-- START_END hands out the product: the marks, the fallback position, the home values, the draw
sequence, the timers, the contacts, and the first station state (R1, R25, R33, R34, R60, R105, R167,
R184; log entry 23: the share unit takes the fallback here). -/
def Obligations.StartEndHandsOutTheProduct : Prop :=
  ∀ (s : State) (image : List Byte) (d : Nat),
    s.held = false → s.member.station = .start → s.startTimer = .running d →
    s.drive.hold.isRunning = false →
    (s.sensing.contact1.active = false ∧ s.sensing.contact2.active = false) →
    ∃ t, exec (.startEnd image) s = .next t ∧
      t.cfg = (load s.role image).product ∧ t.configFault = (load s.role image).fault ∧
      t.configClamped = (load s.role image).clamped ∧ t.startTimer = .stopped ∧
      t.now = max s.now d ∧
      t.member.station = (if s.address = 0 then .unaddressed else .listen) ∧
      (s.address ≠ 0 → t.member.joinWindow = .running (t.now + 5000)) ∧
      t.member.aging = .running (t.now + 1000) ∧ t.sensing.sample = .running (t.now + 2000) ∧
      (s.role = .plant → t.plant.timer = .running (t.now + 5000)) ∧
      t.share.standing = t.cfg.fallback ∧ t.share.record.position = some t.cfg.fallback ∧
      t.drive.target = t.cfg.fallback ∧
      t.setpoints.home.heat = t.cfg.heat ∧
      t.setpoints.home.cool = max t.cfg.cool (t.cfg.heat + 20) ∧
      t.setpoints.home.humidity = t.cfg.humidity ∧ t.setpoints.figures = t.setpoints.home ∧
      t.line.sequence = s.address ∧ t.line.queue = [] ∧
      (∀ c, t.contactInUse c = true →
        (t.sensing.contact c).debounce =
          if levelActive s.role (s.sensing.contact c).level then .running (t.now + 2000)
          else .stopped) ∧
      t.member.table = s.member.table ∧ t.sensing.first = s.sensing.first ∧
      t.sensing.second = s.sensing.second

/-- Whatever bytes the configuration memory answers, every field of the product lies in its range
(R186, R187); an absent image, or one whose mark or check is wrong, gives the defaults and CONFIG FAULT
(R185). From a good image each field of the role-independent part and of the role's own part, but for the
table, which the next statement gives, is the value at its bytes held to its range (R192); the other
role's part stays at its defaults (log entry 4: DEDUCED); and CONFIG CLAMPED is set exactly if a field
read lies outside its range or the table is replaced. -/
def Obligations.LoadedProductIsInRange : Prop :=
  (∀ (role : Role) (image : List Byte), productWf (load role image).product) ∧
  (∀ (role : Role) (image : List Byte),
    (image.length < 64 ∨ byteAt image 0 ≠ 0xA5 ∨
      checkSums (image.take 62) ≠ (nat1 image 62, nat1 image 63)) →
    (load role image).product = Config.defaults ∧ (load role image).fault = true ∧
      (load role image).clamped = false) ∧
  (∀ image : List Byte, imageGood image →
    (load .zone image).fault = false ∧
    (load .zone image).product =
      { Config.defaults with
        table := (load .zone image).product.table
        fallback := clampNat (nat2 image 19) 0 1200
        alertMask := byteAt image 21
        qd := clampNat (nat1 image 22) 2 80
        relief := clampNat (nat1 image 23) 0 80
        weight := clampNat (nat1 image 24) 1 4
        band := clampNat (nat1 image 25) 5 40
        posMin := clampNat (nat2 image 26) 0 300
        heat := clampInt (int2 image 28) 100 300
        cool := clampInt (int2 image 30) 120 320
        humidity := clampInt (nat1 image 32) 35 70
        setback := clampInt (nat1 image 33) 0 60
        panelLock := nat1 image 34 != 0
        lockSpan := clampInt (nat1 image 35) 0 30
        windowUse := nat1 image 36 != 0
        occupancyUse := nat1 image 37 != 0 } ∧
    ((load .zone image).clamped = true ↔ commonOutside image ∨ zoneOutside image)) ∧
  ∀ image : List Byte, imageGood image →
    let most := clampNat (nat2 image 38) 20 400
    (load .plant image).fault = false ∧
    (load .plant image).product =
      { Config.defaults with
        table := (load .plant image).product.table
        fallback := clampNat (nat2 image 19) 0 1200
        alertMask := byteAt image 21
        qmax := most
        qminHeat := clampNat (nat2 image 40) 4 most
        qminCool := clampNat (nat2 image 42) 4 most
        qminDry := clampNat (nat2 image 44) 4 most
        qpurge := clampNat (nat2 image 46) 4 most
        slew := clampNat (nat1 image 48) 2 20
        kmin := clampNat (nat1 image 49) 15 40
        margin := clampNat (nat2 image 50) 50 400
        dwell := clampNat (nat2 image 52) 300 1800
        qbp := clampNat (nat1 image 54) 0 200 } ∧
    ((load .plant image).clamped = true ↔ commonOutside image ∨ plantOutside image)

/-- R187: a table with an entry smaller than the one before it is replaced whole, with CONFIG CLAMPED;
any other is kept as held to 0..1200; the rule's own example goes to 840. -/
def Obligations.DecreasingTableIsReplacedWhole : Prop :=
  (∀ (role : Role) (image : List Byte),
    imagePresent image = true → imageChecked image = true →
    let T := fun i => clampNat (nat2 image (1 + 2 * i)) 0 1200
    ((∃ i, i < 8 ∧ T (i + 1) < T i) →
      (load role image).product.table = [0, 150, 300, 450, 600, 750, 900, 1050, 1200] ∧
      (load role image).clamped = true) ∧
    ((∀ i, i < 8 → T i ≤ T (i + 1)) →
      (load role image).product.table = (List.range 9).map T)) ∧
  lookup [0, 150, 300, 450, 600, 750, 900, 1050, 1200] 700 = 840

/-! ### Membership -/

/-- The join window's expiry enters CLAIM and queues the ROLL CALL (R4, R5); the duplicate hold's enters
LISTEN with a new join window (R10); the line-quiet timer's sets the latch and starts it again (R22).
Nothing else changes, but the draw of a wait period that begins. -/
def Obligations.StationTimersMoveTheStation : Prop :=
  (∀ (s : State) (d : Nat), s.held = false → s.member.station = .listen →
    s.member.joinWindow = .running d → s.line.queue = [] →
    ∃ t, exec .joinWindowExpiry s = .next t ∧
      t = { s with
        now := max s.now d
        member :=
          { s.member with
            station := .claim, joinWindow := .stopped, rollCallWait := .stopped,
            duplicateHold := .stopped }
        line :=
          { s.line with
            queue :=
              [{ kind := .rollCall, dest := s.address, body := none, lost := 0, inFlight := false,
                 use := .plain }]
            wait := t.line.wait, sequence := t.line.sequence } } ∧
      ((s.line.idle = true ∧ s.line.stuck = false) →
        t.line.sequence = (5 * s.line.sequence + 1) % 256 ∧
        t.line.wait = some (t.line.sequence / 32)) ∧
      ((s.line.idle = false ∨ s.line.stuck = true) →
        t.line.sequence = s.line.sequence ∧ t.line.wait = none)) ∧
  (∀ (s : State) (d : Nat), s.held = false → s.member.station = .duplicate →
    s.member.duplicateHold = .running d → s.line.queue = [] →
    exec .duplicateHoldExpiry s = .next { s with
      now := max s.now d
      member :=
        { s.member with
          station := .listen, joinWindow := .running (max s.now d + 5000),
          rollCallWait := .stopped, duplicateHold := .stopped }
      line := { s.line with wait := none } }) ∧
  (∀ (s : State) (d : Nat), s.held = false → s.member.lineQuiet = .running d →
    exec .lineQuietExpiry s = .next { s with
      now := max s.now d
      member :=
        { s.member with
          lineQuietLatch := true, lineQuiet := .running (max s.now d + 60000) } })

/-- The roll-call wait's expiry enters ONLINE: the line-quiet timer starts, the first announcement is
queued with its period timer, and both units are told (R6, R7, R22, R55, R138). -/
def Obligations.RollCallWaitEndsOnline : Prop :=
  ∀ (s : State) (d : Nat), s.held = false → s.member.station = .claim →
    s.member.rollCallWait = .running d → s.line.queue = [] →
    ∃ t, exec .rollCallWaitExpiry s = .next t ∧
      t.member =
        { s.member with
          station := .online, joinWindow := .stopped, rollCallWait := .stopped,
          duplicateHold := .stopped, lineQuiet := .running (max s.now d + 60000) } ∧
      t.line.queue =
        [{ kind := ownKind s.role, dest := 0, body := none, lost := 0, inFlight := false,
           use := .plain }] ∧
      t.announcer.period = .running (max s.now d + periodMs s.role) ∧
      toldShare s t ∧ (s.role = .plant → toldPlant s t) ∧
      t = { s with
        now := max s.now d, member := t.member, line := t.line, share := t.share,
        demand := t.demand, plant := t.plant } ∧
      t.demand = { s.demand with announcer := t.demand.announcer } ∧
      t.plant =
        { s.plant with
          announcer := t.plant.announcer, flight := t.plant.flight, mark := t.plant.mark }

/-- An aging expiry ages every entry by one, removes those that reach 180 and makes STALE those that
reach their limit, or is deferred while a snapshot occupies the table (R17, R18, R23). -/
def Obligations.AgingExpiryAgesTheTable : Prop :=
  (∀ (s : State) (d : Nat), s.held = false → s.member.aging = .running d → s.occupied = false →
    (∀ e ∈ s.member.table, e.age ≤ 179) →
    ∃ t, exec .agingExpiry s = .next t ∧
      t.member.table =
        (s.member.table.filter fun e => e.age != 179).map (fun e =>
          { e with
            age := e.age + 1
            standing := if e.age + 1 = (match e.role with | .zone => 45 | .plant => 15)
              then .stale else e.standing }) ∧
      ((∃ e ∈ s.member.table, e.age = 179 ∨
          (e.standing = .fresh ∧ e.age + 1 = staleLimit e.role)) →
        toldShare s t ∧ (s.role = .plant → toldPlant s t)) ∧
      t.member =
        { s.member with
          aging := .running (max s.now d + 1000), table := t.member.table,
          followed := t.member.followed } ∧
      t = { s with
        now := max s.now d, member := t.member, line := t.line, share := t.share,
        demand := t.demand, plant := t.plant }) ∧
  (∀ (s : State) (d : Nat), s.held = false → s.member.aging = .running d → s.occupied = true →
    exec .agingExpiry s = .next { s with
      now := max s.now d
      member :=
        { s.member with
          aging := .running (max s.now d + 1000), deferred := s.member.deferred + 1 } })

/-- A snapshot's end, of either unit, begins its computation of 2 ms. Once no snapshot occupies the
table, the aging expiries that waited are applied, then the waiting emptying of a RESTART with its event;
an aging whose event has begun the other unit's snapshot makes the emptying wait again (R11, R18, R23,
R64, R108; log entry 25 on which goes first). -/
def Obligations.SnapshotEndBeginsTheComputation : Prop :=
  (∀ (s : State) (f : ShareFlight), s.held = false → s.share.flight = some f →
    f.phase = .snapshot → s.member.deferred = 0 → s.member.emptying = none →
    exec (.snapshotEnd .share) s = .next { s with
      now := max s.now f.due
      share := { s.share with
        flight := some { f with phase := .computing, due := f.due + 2 } } }) ∧
  (∀ (s : State) (f : PlantFlight), s.held = false → s.plant.flight = some f →
    f.phase = .snapshot → s.member.deferred = 0 → s.member.emptying = none →
    exec (.snapshotEnd .plant) s = .next { s with
      now := max s.now f.due
      plant := { s.plant with
        flight := some { f with phase := .computing, due := f.due + 2 } } }) ∧
  (∀ (s u : State) (unit : ReckoningUnit), s.held = false →
    ((unit = .share ∧ ∃ f, s.share.flight = some f ∧ f.phase = .snapshot ∧
        u = { s with
          now := max s.now f.due
          share := { s.share with
            flight := some { f with phase := .computing, due := f.due + 2 } } }) ∨
      (unit = .plant ∧ ∃ f, s.plant.flight = some f ∧ f.phase = .snapshot ∧
        u = { s with
          now := max s.now f.due
          plant := { s.plant with
            flight := some { f with phase := .computing, due := f.due + 2 } } })) →
    u.occupied = false → (s.member.emptying.isSome = true → s.member.followed = none) →
    (∀ e ∈ s.member.table, e.age ≤ 179) →
    ∃ t, exec (.snapshotEnd unit) s = .next t ∧ t.member.deferred = 0 ∧
      (s.member.emptying = none →
        t.member.table = ageTable^[s.member.deferred] s.member.table) ∧
      (∀ b, s.member.emptying = some b →
        t.member.followed = none ∧
        ((t.member.emptying = none ∧ t.member.table = []) ∨
          (t.member.emptying = some b ∧ t.occupied = true ∧
            t.member.table = ageTable^[s.member.deferred] s.member.table)) ∧
        (s.member.deferred = 0 ∨
            (u.share.flight.isSome = true ∧ (s.role = .zone ∨ u.plant.flight.isSome = true)) →
          t.member.emptying = none) ∧
        (s.member.deferred = 0 → (s.member.table ≠ [] ∨ b = true) →
          toldShare u t ∧ (s.role = .plant → toldPlant u t)) ∧
        (s.role = .plant → (u.share.flight = none ∨ u.plant.flight = none) →
          s.member.deferred = 1 →
          (∃ e ∈ s.member.table, e.age = 179 ∨
            (e.standing = .fresh ∧ e.age + 1 = staleLimit e.role)) →
          (∃ e ∈ s.member.table, e.age < 179) → t.member.emptying = some b)) ∧
      t.share.record = s.share.record ∧ t.drive = s.drive ∧ t.sensing = s.sensing ∧
      t.setpoints = s.setpoints)

/-- R15: a tabled frame from an address not in the table, with fewer than 24 entries held, appends a
new entry at the tail of its chain, the other places keep, and the event is raised. -/
def Obligations.NewPeerIsAdmittedAtTheTail : Prop :=
  ∀ (c : Instr) (f : Frame) (s : State), writesTable c f s →
    (∀ e ∈ s.member.table, e.address ≠ f.src.toNat) → s.member.table.length < 24 →
    ∃ t, exec c s = .next t ∧
      chain t.member.table (chainOf f.src.toNat) =
        chain s.member.table (chainOf f.src.toNat) ++
          [{ address := f.src.toNat, standing := .fresh, age := 0, heard := 1,
             record := f.record }] ∧
      (∀ k, k ≠ chainOf f.src.toNat → chain t.member.table k = chain s.member.table k) ∧
      toldShare s t ∧ (s.role = .plant → toldPlant s t) ∧
      t.member = { s.member with table := t.member.table, followed := t.member.followed } ∧
      t = { s with
        member := t.member, line := t.line, share := t.share, demand := t.demand,
        plant := t.plant }

/-- A tabled frame from a peer of the table refreshes its entry in place. Both units are told of a return
to FRESH or a change of role; the share unit of a FRESH zone's changed fields (trigger 4) and of the
followed plant's changed mode, defrost flag or Qb (trigger 2); the plant sequencer of a FRESH zone's
changed fields, the weight among them; and a unit is told of nothing else (R14, R18, R61, R106). -/
def Obligations.KnownPeerIsRefreshedInPlace : Prop :=
  ∀ (c : Instr) (f : Frame) (s : State) (old : Entry), writesTable c f s →
    s.member.table.find? (fun e => e.address == f.src.toNat) = some old →
    ∃ t, exec c s = .next t ∧
      t.member.table = s.member.table.map (fun e =>
        if e.address = f.src.toNat then
          { address := e.address, standing := .fresh, age := 0, heard := (e.heard + 1) % 256,
            record := f.record }
        else e) ∧
      ((old.standing = .stale ∨ old.role ≠ f.record.role) →
        toldShare s t ∧ (s.role = .plant → toldPlant s t)) ∧
      (∀ a b, old.standing = .fresh → old.record = .zone a → f.record = .zone b →
        zoneFieldsDiffer a b → toldShare s t) ∧
      (∀ a b, s.role = .zone → s.member.followed = some old.address → old.record = .plant a →
        f.record = .plant b → plantFieldsDiffer a b → toldShare s t) ∧
      (∀ a b, s.role = .plant → old.standing = .fresh → old.record = .zone a →
        f.record = .zone b → (zoneFieldsDiffer a b ∨ a.weight ≠ b.weight) → toldPlant s t) ∧
      (old.standing = .fresh → old.role = f.record.role →
        (∀ a b, old.record = .zone a → f.record = .zone b → ¬zoneFieldsDiffer a b) →
        (∀ a b, s.role = .zone → s.member.followed = some old.address → old.record = .plant a →
          f.record = .plant b → ¬plantFieldsDiffer a b) →
        t.share = s.share ∧ t.member.followed = s.member.followed) ∧
      (old.standing = .fresh → old.role = f.record.role →
        (∀ a b, old.record = .zone a → f.record = .zone b →
          ¬zoneFieldsDiffer a b ∧ a.weight = b.weight) →
        t.plant.flight = s.plant.flight ∧ t.plant.mark = s.plant.mark) ∧
      t = { s with
        member := t.member, line := t.line, share := t.share, demand := t.demand,
        plant := t.plant }

/-- With 24 entries held, a newcomer takes the place of the STALE entry of the greatest age, of the
lowest chain and the earliest position among equals; with no entry STALE it is left out, TABLE FULL is
set and counted, and the table stays (R16). -/
def Obligations.FullTableEvictsTheOldestStale : Prop :=
  ∀ (c : Instr) (f : Frame) (s : State), writesTable c f s → Table.wf s.address s.member.table →
    s.member.table.length = 24 → (∀ e ∈ s.member.table, e.address ≠ f.src.toNat) →
    ((∀ e ∈ s.member.table, e.standing = .fresh) →
      ∃ t, exec c s = .next t ∧
        t.member =
          { s.member with
            tableFull := true, tableFullCount := min 255 (s.member.tableFullCount + 1) } ∧
        t = { s with member := t.member, line := t.line } ∧ t.line.queue = s.line.queue) ∧
    ((∃ e ∈ s.member.table, e.standing = .stale) →
      ∃ t before v after, exec c s = .next t ∧ s.member.table = before ++ v :: after ∧
        v.standing = .stale ∧ (∀ e ∈ before, e.standing = .stale → e.age < v.age) ∧
        (∀ e ∈ after, e.standing = .stale → e.age ≤ v.age) ∧
        (∀ k, chain t.member.table k =
          chain (before ++ after) k ++
            (if k = chainOf f.src.toNat then
              [{ address := f.src.toNat, standing := .fresh, age := 0, heard := 1,
                 record := f.record }]
            else [])) ∧
        toldShare s t ∧ (s.role = .plant → toldPlant s t))

/-- An ANNOUNCE or PLANT STATUS that meets a snapshot waits as the handler's current frame; one from
source 0 has no effect but leaving the pair (R13, R23). -/
def Obligations.TablingWaitsForASnapshot : Prop :=
  ∀ (c : Instr) (f : Frame) (rest : List Frame) (s : State), s.atFront f rest →
    s.member.station ≠ .start →
    ((c = .announce ∧ f.isKind .announce = true) ∨
      (c = .plantStatus ∧ f.isKind .plantStatus = true)) →
    (f.src.toNat = 0 → exec c s = .next (s.taken rest)) ∧
    (f.src.toNat ≠ 0 → f.src.toNat ≠ s.address → s.occupied = true →
      exec c s = .next
        { s with line := { s.line with pair := rest, current := some f } })

/-- A RESTART order carried out empties the table and the transmit queue, drops the followed plant and
enters LISTEN with a new join window; the membership latches, the damper, the setpoints and the channels
are kept. While a snapshot occupies the table its emptying alone waits (R9, R11, R23, R124; log entry 25
on the followed plant). -/
def Obligations.RestartEmptiesAndListens : Prop :=
  ∀ (s : State) (n : Nat), s.held = false → s.member.restartsHanded = n + 1 →
    s.member.station ≠ .start → s.member.station ≠ .unaddressed →
    ∃ t, exec .restartCarriedOut s = .next t ∧
      t.member.station = .listen ∧ t.member.followed = none ∧
      (s.responder.waiting = [] → t.member.restartsHanded = n) ∧
      (s.occupied = false → t.member.table = [] ∧ t.member.emptying = s.member.emptying ∧
        ((s.member.table ≠ [] ∨ s.member.followed ≠ none) → toldShare s t)) ∧
      (s.occupied = true → t.member.table = s.member.table ∧
        t.member.emptying =
          some (s.member.followed.isSome || s.member.emptying.getD false)) ∧
      t.member.joinWindow = .running (s.now + 5000) ∧ t.member.rollCallWait = .stopped ∧
      t.member.duplicateHold = .stopped ∧ t.line.queue = [] ∧
      t.member.tableFull = s.member.tableFull ∧
      t.member.lineQuietLatch = s.member.lineQuietLatch ∧
      t.member.tableFullCount = s.member.tableFullCount ∧ t.member.aging = s.member.aging ∧
      t.member.deferred = s.member.deferred ∧
      (s.member.station = .online → toldShare s t ∧ t.member.lineQuiet = .stopped ∧
        (s.role = .plant → t.plant.arb.mode = .idle ∧ t.plant.air.call = false ∧
          t.plant.air.qb = 0 ∧ t.plant.arb.minOff = .running (s.now + 180000))) ∧
      t.drive = s.drive ∧ t.setpoints = s.setpoints ∧ t.sensing = s.sensing ∧ t.cfg = s.cfg ∧
      t.line.latches = s.line.latches ∧ t.line.counters = s.line.counters ∧ t.now = s.now

/-- A frame from the own address is duplicate evidence in LISTEN, CLAIM and ONLINE, a ROLL CALL not in
ONLINE: the station enters DUPLICATE with its hold, nothing stays queued, the table is kept, and leaving
ONLINE has its effects (R4, R6, R9, R10, R124). A SETPOINT and a request are evidence like it, after their
own block has handled them (R164; log entry 6 on the order). In DUPLICATE evidence has no other effect
(R10). -/
def Obligations.OwnFrameSendsToDuplicate : Prop :=
  (∀ (c : Instr) (f : Frame) (rest : List Frame) (s : State), s.atFront f rest →
    takesFrame c f = true →
    c ∈ [.announce, .plantStatus, .present, .setpointReply, .result, .rollCall] →
    f.src.toNat = s.address → s.address ≠ 0 →
    (s.member.station = .listen ∨ s.member.station = .claim ∨
      (s.member.station = .online ∧ c ≠ .rollCall)) →
    ∃ t, exec c s = .next t ∧
      t.member.station = .duplicate ∧ t.member.duplicateHold = .running (s.now + 120000) ∧
      t.member.joinWindow = .stopped ∧ t.member.rollCallWait = .stopped ∧
      t.member.table = s.member.table ∧ t.member.followed = s.member.followed ∧
      t.line.pair = rest ∧ t.line.queue = [] ∧
      (s.member.station = .online →
        t.member.lineQuiet = .stopped ∧ t.announcer = Announcer.reset ∧ toldShare s t ∧
        (s.role = .plant → t.plant.arb.mode = .idle ∧ t.plant.arb.valve = false ∧
          t.plant.air.call = false ∧ t.plant.air.qb = 0 ∧
          t.plant.arb.minOff = .running (s.now + 180000))) ∧
      t.drive = s.drive ∧ t.setpoints = s.setpoints ∧ t.sensing = s.sensing ∧ t.cfg = s.cfg ∧
      t.line.latches = s.line.latches ∧ t.line.counters = s.line.counters) ∧
  (∀ (c : Instr) (f : Frame) (rest : List Frame) (s : State), s.atFront f rest →
    takesFrame c f = true →
    (c = .setpoint ∨ ∃ (r : Request) (endStop : Bool), c = r.command endStop) →
    f.src.toNat = s.address → s.address ≠ 0 →
    (s.member.station = .listen ∨ s.member.station = .claim ∨ s.member.station = .online) →
    ∃ t, exec c s = .next t ∧
      t.member.station = .duplicate ∧ t.member.duplicateHold = .running (s.now + 120000) ∧
      t.member.joinWindow = .stopped ∧ t.member.rollCallWait = .stopped ∧
      t.member.table = s.member.table ∧ t.member.followed = s.member.followed ∧
      t.line.pair = rest ∧ t.line.queue = [] ∧
      (s.member.station = .online →
        t.member.lineQuiet = .stopped ∧ t.announcer = Announcer.reset ∧ toldShare s t) ∧
      (s.role = .zone → c = .setpoint →
        t.setpoints.figures = (s.setpoints.work s.cfg (setpointField f.body 0)
          (setpointField f.body 2) (setpointField f.body 4)).1) ∧
      t.cfg = s.cfg) ∧
  ∀ (c : Instr) (f : Frame) (rest : List Frame) (s : State), s.atFront f rest →
    takesFrame c f = true →
    c ∈ [.announce, .plantStatus, .present, .setpointReply, .result, .rollCall] →
    f.src.toNat = s.address → s.address ≠ 0 → s.member.station = .duplicate →
    exec c s = .next (s.taken rest)

/-- A ROLL CALL for the own address in ONLINE is answered with a PRESENT, or the PRESENT is dropped with
REPLY DROPPED where three replies are held; the station stays ONLINE (R8, R165). -/
def Obligations.RollCallIsAnsweredInOnline : Prop :=
  ∀ (f : Frame) (rest : List Frame) (s : State), s.atFront f rest →
    f.isKind .rollCall = true → f.src.toNat = s.address → s.address ≠ 0 →
    s.member.station = .online →
    ∃ t, exec .rollCall s = .next t ∧ t = { s with line := t.line } ∧
      (s.line.replies < 3 → t.line =
        { s.line with
          pair := rest
          queue := s.line.queue ++
            [{ kind := .present, dest := s.address, body := some [byte (roleCode s.role)],
               lost := 0, inFlight := false, use := .plain }]
          wait := t.line.wait, sequence := t.line.sequence }) ∧
      (3 ≤ s.line.replies → t.line =
        { s.line with
          pair := rest, latches := { s.line.latches with replyDropped := true }
          counters :=
            { s.line.counters with
              replyDropped := min 255 (s.line.counters.replyDropped + 1) } })

/-- A PRESENT, SETPOINT REPLY, RESULT or ROLL CALL of another station is discarded without a latch, a
frame of unknown kind with the UNKNOWN latch; in START every frame is discarded as it is taken (R1,
R164). -/
def Obligations.OtherFramesAreDiscarded : Prop :=
  (∀ (c : Instr) (f : Frame) (rest : List Frame) (s : State), s.atFront f rest →
    takesFrame c f = true → c ∈ [.present, .setpointReply, .result, .rollCall] →
    (f.src.toNat ≠ s.address ∨ f.src.toNat = 0) → exec c s = .next (s.taken rest)) ∧
  (∀ (f : Frame) (rest : List Frame) (s : State), s.atFront f rest → f.form = none →
    s.member.station ≠ .start →
    exec .unknownKindFrame s = .next { s with
      line := { s.line with pair := rest, latches := { s.line.latches with unknown := true } } }) ∧
  ∀ (c : Instr) (f : Frame) (rest : List Frame) (s : State), s.atFront f rest →
    takesFrame c f = true → s.member.station = .start → exec c s = .next (s.taken rest)

/-! ### The service responder -/

/-- A request is turned away with BUSY, UNKNOWN, ROLE or RANGE in that order and has no other effect, of
the line on the pair, the queue and the draw of a wait period alone; one with destination 0 or source 0
is discarded unanswered (R173). -/
def Obligations.RequestIsTurnedAway : Prop :=
  (∀ (s : State) (f : Frame) (rest : List Frame) (r : Request) (endStop : Bool) (code : ResultCode),
    s.asked f rest → f.makes r = true →
    ((s.responder.dump ≠ none ∧ f.request ≠ some .restart ∧ code = .busy) ∨
      (s.responder.dump = none ∧ f.request = none ∧ code = .unknown) ∨
      (s.responder.dump = none ∧ f.request = some .plant ∧ s.role = .zone ∧ code = .role) ∨
      (s.responder.dump = none ∧ f.request = some r ∧ ¬(r = .plant ∧ s.role = .zone) ∧
        r.inRange f = false ∧ code = .range)) →
    ∃ t, exec (r.command endStop) s = .next t ∧
      t = { s with
        line :=
          { s.line with
            pair := rest
            queue := s.line.queue ++
              [resultEntry f.src.toNat [byteAt f.body 0, byte code.code, 0] .plain]
            wait := t.line.wait, sequence := t.line.sequence } }) ∧
  ∀ (s : State) (f : Frame) (rest : List Frame) (r : Request) (endStop : Bool),
    s.atFront f rest → f.makes r = true →
    ((f.dest.toNat = 0 ∧ f.src.toNat ≠ s.address) ∨ f.src.toNat = 0) →
    exec (r.command endStop) s = .next (s.taken rest)

/-- A PEER query is answered with CHAIN EMPTY, NO MATCH with the chain's length, or FOUND with the
entry's place and the whole entry; a SHARE query with the share record; a PLANT query in the plant role
with the part asked for. None changes anything but the line (R24, R174, R176; the layouts of the last two
are the model's reading, log entries 15 and 16). -/
def Obligations.QueriesReportTheirFigures : Prop :=
  (∀ (s : State) (f : Frame) (rest : List Frame) (b : Byte), s.asked f rest →
    f.request = some .peer → s.responder.dump = none → f.body[1]? = some b → b.toNat ≤ 63 →
    ∃ t figures, exec .peer s = .next t ∧ t = { s with line := t.line } ∧ t.line.pair = rest ∧
      t.line.queue = s.line.queue ++ [resultEntry f.src.toNat (1 :: 0 :: 0 :: figures) .plain] ∧
      (chain s.member.table (b.toNat % 8) = [] → figures = [0, byte (b.toNat % 8), 255]) ∧
      (chain s.member.table (b.toNat % 8) ≠ [] →
        (∀ e ∈ chain s.member.table (b.toNat % 8), e.address ≠ b.toNat) →
        figures =
          [1, byte (b.toNat % 8), byte (chain s.member.table (b.toNat % 8)).length]) ∧
      ∀ before e after, chain s.member.table (b.toNat % 8) = before ++ e :: after →
        e.address = b.toNat → (∀ x ∈ before, x.address ≠ b.toNat) →
        figures =
          [2, byte (b.toNat % 8), byte before.length, byte e.address, byte (roleCode e.role),
            byte e.standing.code, byte e.age, byte e.heard, byte (e.heard / 256)] ++ e.record.body) ∧
  (∀ (s : State) (f : Frame) (rest : List Frame), s.asked f rest → f.request = some .share →
    s.responder.dump = none →
    ∃ t, exec .share s = .next t ∧ t = { s with line := t.line } ∧ t.line.pair = rest ∧
      t.line.latches = s.line.latches ∧
      t.line.queue = s.line.queue ++
        [resultEntry f.src.toNat ([3, 0, 0] ++ s.share.record.bytes s.role) .plain]) ∧
  (∀ (s : State) (f : Frame) (rest : List Frame) (p : Byte), s.asked f rest →
    f.request = some .plant → s.responder.dump = none → s.role = .plant →
    f.body[1]? = some p → p.toNat ≤ 1 →
    ∃ t, exec .plant s = .next t ∧ t = { s with line := t.line } ∧ t.line.pair = rest ∧
      t.line.latches = s.line.latches ∧
      t.line.queue = s.line.queue ++
        [resultEntry f.src.toNat
          ([4, 0, 0, p] ++ (if p.toNat = 0 then s.plantPart0 else s.plantPart1)) .plain])

/-- A STATUS query is answered with the three latch bytes and the part asked for; the clear option
clears the latches and leaves the counters and the configuration marks (R175). Where the layout table
leaves a part's bytes open they are the model's choice (log entry 17). -/
def Obligations.StatusQueryReportsAndClears : Prop :=
  ∀ (s : State) (f : Frame) (rest : List Frame) (p o : Byte), s.asked f rest →
    f.request = some .status → s.responder.dump = none → f.body[1]? = some p →
    f.body[2]? = some o → p.toNat ≤ 3 → o.toNat ≤ 1 →
    ∃ t, exec .status s = .next t ∧
      t.line.queue = s.line.queue ++
        [resultEntry f.src.toNat
          ([2, 0, 0, p,
            flagsByte [s.line.latches.framing, s.line.latches.truncated, s.line.latches.length,
              s.line.latches.check, s.line.latches.overrun, s.line.latches.unknown,
              s.line.latches.replyDropped, s.line.latches.crowded],
            flagsByte [s.line.latches.stuck, s.member.tableFull, s.member.lineQuietLatch,
              s.sensing.contact1.changed, s.sensing.contact2.changed, s.drive.slip,
              s.drive.closedNotConfirmed, s.configFault],
            flagsByte [s.configClamped]] ++ s.statusPart p.toNat) .plain] ∧
      t.line.pair = rest ∧ t.line.counters = s.line.counters ∧
      (o.toNat = 0 → t = { s with line := t.line } ∧ t.line.latches = s.line.latches) ∧
      (o.toNat = 1 →
        t.line.latches = LineLatches.clear ∧
        t = { s with
          line := t.line
          member := { s.member with tableFull := false, lineQuietLatch := false }
          sensing :=
            { s.sensing with
              contact1 := { s.sensing.contact1 with changed := false }
              contact2 := { s.sensing.contact2 with changed := false } }
          drive := { s.drive with slip := false, closedNotConfirmed := false } })

/-- A DUMP query begins a dump: its first RESULT carries the entry its walk finds, with LAST if the
count was 1, or no entry and LAST where the walk runs past chain 7 (R180). -/
def Obligations.DumpBeginsAtItsChain : Prop :=
  ∀ (s : State) (f : Frame) (rest : List Frame) (c n : Byte), s.asked f rest →
    f.request = some .dump → s.responder.dump = none → f.body[1]? = some c →
    f.body[2]? = some n → c.toNat ≤ 7 → 1 ≤ n.toNat → n.toNat ≤ 24 →
    ∃ t, exec .dump s = .next t ∧
      t = { s with line := t.line, responder := { s.responder with dump := t.responder.dump } } ∧
      t.line.pair = rest ∧ t.line.latches = s.line.latches ∧
      (∀ k i e, walkFinds s.member.table c.toNat 0 k i e →
        t.responder.dump = some
          { requester := f.src.toNat, chain := k, position := i + 1, remaining := n.toNat - 1,
            abort := false, nextDue := false } ∧
        t.line.queue = s.line.queue ++
          [resultEntry f.src.toNat
            ([5, 0, if n.toNat = 1 then 1 else 0, 2, byte k, byte i] ++ e.figures)
            (.dump (n.toNat == 1))]) ∧
      (walkEnds s.member.table c.toNat 0 →
        t.line.queue = s.line.queue ++
          [resultEntry f.src.toNat [5, 0, 1, 3, 255, 255] (.dump true)])

/-- The next RESULT of a dump is built at the cursor from the live table, or with LAST and ABORTED if
the abort mark is set; if it cannot be placed, outside ONLINE or with three replies held, the dump is
over, and in the second case the drop is latched and counted (R3, R165, R180 to R182). -/
def Obligations.DumpGoesOnFromItsCursor : Prop :=
  ∀ (s : State) (d : Dump), s.held = false → s.responder.dump = some d → d.nextDue = true →
    d.chain ≤ 7 →
    (s.member.station = .online → s.line.replies < 3 →
      ∃ t, exec .dumpNextResult s = .next t ∧
        t = { s with line := t.line, responder := { s.responder with dump := t.responder.dump } } ∧
        t.line.pair = s.line.pair ∧ t.line.latches = s.line.latches ∧
        (∀ k i e, d.abort = false → walkFinds s.member.table d.chain d.position k i e →
          t.responder.dump = some
            { requester := d.requester, chain := k, position := i + 1,
              remaining := d.remaining - 1, abort := false, nextDue := false } ∧
          t.line.queue = s.line.queue ++
            [resultEntry d.requester
              ([5, 0, if d.remaining ≤ 1 then 1 else 0, 2, byte k, byte i] ++ e.figures)
              (.dump (decide (d.remaining ≤ 1)))]) ∧
        (d.abort = false → walkEnds s.member.table d.chain d.position →
          t.line.queue = s.line.queue ++
            [resultEntry d.requester [5, 0, 1, 3, 255, 255] (.dump true)]) ∧
        (d.abort = true →
          t.line.queue = s.line.queue ++
            [resultEntry d.requester [5, 0, 3, 3, 255, 255] (.dump true)])) ∧
    (s.member.station ≠ .online →
      ∃ t, exec .dumpNextResult s = .next t ∧ t.responder.dump = none ∧ t.line = s.line) ∧
    (s.member.station = .online → 3 ≤ s.line.replies →
      ∃ t, exec .dumpNextResult s = .next t ∧ t.responder.dump = none ∧ t.line = s.line.dropped)

/-- A CLEAR order clears SLIP and CLOSED NOT CONFIRMED, ends a hold, takes the drive out of FAULT into a
homing, and in the plant role clears the frost lockout standing and triggers a reckoning. It is answered
DONE where a RESULT can be placed, and carried out either way (R87, R99, R100, R173, R177). -/
def Obligations.ClearOrderFreesTheDrive : Prop :=
  ∀ (s : State) (f : Frame) (rest : List Frame) (endStop : Bool), s.ordered f rest →
    f.request = some .clear → s.responder.dump = none → s.drive.wf →
    ∃ t, exec (.clear endStop) s = .next t ∧
      (s.member.station = .online → s.line.replies < 3 →
        resultEntry f.src.toNat [16, 0, 0] .plain ∈ t.line.queue) ∧
      t.drive.slip = false ∧ t.drive.slipCount = s.drive.slipCount ∧
      ((s.drive.hold.isRunning = false ∨ s.drive.state ≠ .moving) →
        t.drive.closedNotConfirmed = false) ∧
      (s.drive.hold.isRunning = false → s.drive.state ≠ .fault →
        t.drive =
          { s.drive with slip := false, closedNotConfirmed := false, endStop := endStop }) ∧
      (s.drive.hold.isRunning = true →
        t.drive.hold = .stopped ∧ t.drive.target = s.share.standing) ∧
      (s.drive.state = .fault → t.drive.cause = .none ∧ t.drive.stallCount = 0 ∧
        (endStop = false → t.drive.state = .homing) ∧
        (endStop = true → t.drive.count = some 0 ∧
          t.drive.state = (if t.drive.target = 0 then .idle else .moving))) ∧
      (s.role = .plant → t.plant.arb = { s.plant.arb with frostLockout := false } ∧
        toldPlant s t) ∧
      t = { s with line := t.line, drive := t.drive, plant := t.plant, demand := t.demand }

/-- A HOLD order of 0..1200 starts the hold at its target, one above is refused with RANGE and leaves
the drive; a REHOME order sends a homed or faulted drive to HOMING and changes nothing in UNHOMED and
HOMING. Each is answered where a RESULT can be placed, and carried out either way (R86, R87, R98, R101,
R173, R178). -/
def Obligations.HoldAndRehomeOrders : Prop :=
  (∀ (s : State) (f : Frame) (rest : List Frame) (endStop : Bool), s.ordered f rest →
    f.request = some .hold → s.responder.dump = none → 3 ≤ f.body.length →
    ∃ t, exec (.hold endStop) s = .next t ∧
      t = { s with line := t.line, drive := t.drive, demand := t.demand, plant := t.plant } ∧
      (nat2 f.body 1 ≤ 1200 →
        (s.member.station = .online → s.line.replies < 3 →
          resultEntry f.src.toNat [18, 0, 0] .plain ∈ t.line.queue) ∧
        t.drive.hold = .running (s.now + 600000) ∧ t.drive.target = nat2 f.body 1) ∧
      (1200 < nat2 f.body 1 →
        (s.member.station = .online → s.line.replies < 3 →
          resultEntry f.src.toNat [18, 2, 0] .plain ∈ t.line.queue) ∧ t.drive = s.drive)) ∧
  (∀ (s : State) (f : Frame) (rest : List Frame) (endStop : Bool), s.ordered f rest →
    f.request = some .rehome → s.responder.dump = none →
    ∃ t, exec (.rehome endStop) s = .next t ∧
      t = { s with line := t.line, drive := t.drive, demand := t.demand, plant := t.plant } ∧
      (s.member.station = .online → s.line.replies < 3 →
        resultEntry f.src.toNat [17, 0, 0] .plain ∈ t.line.queue) ∧
      t.drive.target = s.drive.target ∧ t.drive.hold = s.drive.hold ∧
      t.drive.slip = s.drive.slip ∧
      ((s.drive.state = .unhomed ∨ s.drive.state = .homing) →
        t.drive = { s.drive with endStop := endStop }) ∧
      ((s.drive.state = .idle ∨ s.drive.state = .moving ∨ s.drive.state = .fault) →
        t.drive.rehomeDue = false ∧
        (endStop = false → t.drive.state = .homing ∧ t.drive.count = none ∧
          t.drive.homingSteps = 0 ∧ t.drive.step = .running (s.now + 5)) ∧
        (endStop = true → t.drive.count = some 0 ∧ t.drive.sinceStop = 0 ∧
          t.drive.state = (if s.drive.target = 0 then .idle else .moving))))

/-- A RESTART order waits for its DONE RESULT to leave the queue, or is handed on at once where none can
be placed, outside ONLINE or with three replies held (R179). In a dump it sets the abort mark unless a
dump RESULT with LAST is queued; the requester's own order waits for the end of the dump, another's for
its DONE RESULT, if one can be placed, and for the end of the dump too unless it finds the mark set
(R182; log entry 19 for a second order that finds LAST queued). -/
def Obligations.RestartOrderWaitsForItsAnswer : Prop :=
  (∀ (s : State) (f : Frame) (rest : List Frame), s.asked f rest → f.request = some .restart →
    s.responder.dump = none → s.responder.orderly →
    ∃ t, exec .restart s = .next t ∧
      t.line.queue = s.line.queue ++ [resultEntry f.src.toNat [19, 0, 0] .restart] ∧
      t.responder.waiting = s.responder.waiting ++ [{ done := true, dumpEnd := false }] ∧
      t.member.restartsHanded = s.member.restartsHanded ∧
      t = { s with line := t.line, responder := t.responder }) ∧
  (∀ (s : State) (f : Frame) (rest : List Frame), s.atFront f rest → f.request = some .restart →
    f.dest.toNat ≠ 0 → f.src.toNat ≠ 0 → f.src.toNat ≠ s.address →
    (s.member.station = .listen ∨ s.member.station = .claim ∨ s.member.station = .duplicate) →
    s.responder.dump = none → s.responder.orderly →
    exec .restart s = .next
      { s.taken rest with
        member := { s.member with restartsHanded := s.member.restartsHanded + 1 } }) ∧
  (∀ (s : State) (f : Frame) (rest : List Frame), s.ordered f rest → f.request = some .restart →
    s.member.station = .online → 3 ≤ s.line.replies →
    s.responder.dump = none → s.responder.orderly →
    exec .restart s = .next
      { s with
        line := { s.line.dropped with pair := rest }
        member := { s.member with restartsHanded := s.member.restartsHanded + 1 } }) ∧
  (∀ (s : State) (f : Frame) (rest : List Frame) (d : Dump), s.ordered f rest →
    f.request = some .restart → s.member.station = .online → s.responder.dump = some d →
    s.responder.orderly →
    ∃ t, exec .restart s = .next t ∧
      t.responder.dump = some
        { d with abort := d.abort ||
            !(s.line.queue.any fun e => e.use == ResultUse.dump true) } ∧
      (f.src.toNat = d.requester →
        t.line = { s.line with pair := rest } ∧ t.member = s.member ∧
        t.responder.waiting = s.responder.waiting ++ [{ done := false, dumpEnd := true }]) ∧
      (f.src.toNat ≠ d.requester → s.line.replies < 3 →
        t.line.queue = s.line.queue ++ [resultEntry f.src.toNat [19, 0, 0] .restart] ∧
        t.line.pair = rest ∧ t.member = s.member ∧
        t.responder.waiting =
          s.responder.waiting ++ [{ done := true, dumpEnd := !d.abort }]) ∧
      (f.src.toNat ≠ d.requester → 3 ≤ s.line.replies →
        t.line = { s.line.dropped with pair := rest } ∧
        (d.abort = false → t.member = s.member ∧
          t.responder.waiting =
            s.responder.waiting ++ [{ done := false, dumpEnd := true }]) ∧
        (d.abort = true →
          t.member = { s.member with restartsHanded := s.member.restartsHanded + 1 } ∧
          t.responder.waiting = s.responder.waiting)) ∧
      t = { s with line := t.line, member := t.member, responder := t.responder })

/-! ### Sensing, demand, setpoints, announcements -/

/-- A sample expiry works both channels by their raw ranges, starts the timer again, leaves the
contacts, and hands both channels over together. In a zone the demands are formed anew, the wanted-mode
machine makes its one transition, and the share unit is told exactly of a change; in a plant the four
conditions are worked, and each change of one of them or of a usability is told to the sequencer, a
second one by its pending mark (R25 to R30, R43, R44, R46 to R52, R61, R106, R107, R143; log entry 7 on
when OCCUPANCY is taken, log entry 27 on several changes at once). -/
def Obligations.SampleExpiryWorksBothChannels : Prop :=
  (∀ (s : State) (a b : Conversion) (d : Nat), s.held = false → s.sensing.sample = .running d →
    (s.sensing.first.good ≤ 3 ∧ s.sensing.second.good ≤ 3) →
    ∃ t, exec (.sampleTimerExpiry a b) s = .next t ∧
      (s.role = .zone → sampled 0 600 a s.sensing.first t.sensing.first ∧
        sampled 0 1000 b s.sensing.second t.sensing.second) ∧
      (s.role = .plant → sampled (-300) 850 a s.sensing.first t.sensing.first ∧
        sampled (-300) 850 b s.sensing.second t.sensing.second) ∧
      t.sensing =
        { s.sensing with
          first := t.sensing.first, second := t.sensing.second,
          sample := .running (max s.now d + 2000) } ∧
      t = { s with
        now := max s.now d, sensing := t.sensing, demand := t.demand, share := t.share,
        plant := t.plant, line := t.line }) ∧
  (∀ (s : State) (a b : Conversion) (d : Nat), s.held = false → s.sensing.sample = .running d →
    s.role = .zone →
    ∃ t, exec (.sampleTimerExpiry a b) s = .next t ∧ recomputed t ∧
      evaluated s.demand.wanted t ∧ shareToldOfDemand s t) ∧
  (∀ (s : State) (a b : Conversion) (d : Nat), s.held = false → s.sensing.sample = .running d →
    s.role = .plant →
    ∃ t, exec (.sampleTimerExpiry a b) s = .next t ∧
      (∀ c, t.sensing.first.usable = true → t.sensing.first.filtered = some c →
        (t.plant.prot.coilCold = true ↔
          c ≤ 10 ∨ (s.plant.prot.coilCold = true ∧ c < 40)) ∧
        (t.plant.prot.coilFrozen = true ↔ c ≤ -20) ∧
        (t.plant.prot.coilThawed = true ↔ 50 ≤ c)) ∧
      (t.sensing.first.usable = false →
        t.plant.prot.coilCold = false ∧ t.plant.prot.coilFrozen = false ∧
        t.plant.prot.coilThawed = false) ∧
      (∀ c, t.sensing.second.usable = true → t.sensing.second.filtered = some c →
        (t.plant.prot.supplyHot = true ↔
          550 ≤ c ∨ (s.plant.prot.supplyHot = true ∧ 500 < c))) ∧
      (t.sensing.second.usable = false → t.plant.prot.supplyHot = false) ∧
      (∀ changes, changes =
          [t.plant.prot.coilCold != s.plant.prot.coilCold,
            t.plant.prot.coilFrozen != s.plant.prot.coilFrozen,
            t.plant.prot.coilThawed != s.plant.prot.coilThawed,
            t.plant.prot.supplyHot != s.plant.prot.supplyHot,
            t.sensing.first.usable != s.sensing.first.usable,
            t.sensing.second.usable != s.sensing.second.usable] →
        (1 ≤ changes.count true → toldPlant s t) ∧
        (s.plant.flight = none →
          t.plant.mark = (s.plant.mark || decide (2 ≤ changes.count true))) ∧
        (changes.count true = 0 → t.plant = { s.plant with
          prot := t.plant.prot, announcer := t.plant.announcer })) ∧
      t.plant.prot =
        { s.plant.prot with
          coilCold := t.plant.prot.coilCold, coilFrozen := t.plant.prot.coilFrozen
          coilThawed := t.plant.prot.coilThawed, supplyHot := t.plant.prot.supplyHot } ∧
      t.share = s.share)

/-- R45: a zone's heat demand and cool demand are never both above 0, D_heat only with Tf below SPh_eff,
D_cool only with Tf above SPc_eff, which is at least SPh_eff + 20. -/
def Obligations.HeatAndCoolDemandNeverTogether : Prop :=
  ∀ s : State, s.SetpointsWf →
    s.heatEff + 20 ≤ s.coolEff ∧
    (0 < s.formDemands.demand.dHeat → s.sensing.first.filtered.getD 0 < s.heatEff) ∧
    (0 < s.formDemands.demand.dCool → s.coolEff < s.sensing.first.filtered.getD 0) ∧
    ¬(0 < s.formDemands.demand.dHeat ∧ 0 < s.formDemands.demand.dCool)

/-- A contact's level starts its debounce timer where it disagrees with the debounced state and stops it
where it agrees; a contact that is not in use, or a part in START, only sees the level. The timer's expiry
takes the level's state, sets the change latch and hands the state on: WINDOW to the demand and share
units, OCCUPANCY to nobody yet, the plant's contacts to the sequencer, DEFROST ACTIVE outside HEAT counted
as ignored (R31 to R33, R61, R155; log entries 7 and 8). -/
def Obligations.ContactsAreDebouncedAndHandedOn : Prop :=
  (∀ (s : State) (c : Contact) (level : Level), s.held = false →
    (s.sensing.contact c).level ≠ level →
    ∃ t, exec (.contactLevelChange c level) s = .next t ∧
      t = { s with sensing := t.sensing } ∧
      t.sensing.contact c =
        { s.sensing.contact c with
          level := level
          debounce :=
            if s.member.station = .start ∨ s.contactInUse c = false then
              (s.sensing.contact c).debounce
            else if levelActive s.role level ≠ (s.sensing.contact c).active then
              .running (s.now + 2000)
            else .stopped } ∧
      (∀ c', c' ≠ c → t.sensing.contact c' = s.sensing.contact c') ∧
      t.sensing.first = s.sensing.first ∧ t.sensing.second = s.sensing.second ∧
      t.sensing.sample = s.sensing.sample) ∧
  ∀ (s : State) (c : Contact) (d : Nat), s.held = false →
    (s.sensing.contact c).debounce = .running d →
    ∃ t, exec (.debounceExpiry c) s = .next t ∧
      t.sensing.contact c =
        { s.sensing.contact c with
          active := levelActive s.role (s.sensing.contact c).level, debounce := .stopped,
          changed := true } ∧
      (∀ c', c' ≠ c → t.sensing.contact c' = s.sensing.contact c') ∧
      (s.role = .zone → c = .first → evaluated s.demand.wanted t ∧ toldShare s t) ∧
      (s.role = .zone → c = .second →
        t = { s with now := max s.now d, sensing := t.sensing }) ∧
      (s.role = .plant → toldPlant s t ∧
        t.plant.prot =
          { s.plant.prot with
            ignored :=
              if c = .first ∧ (s.sensing.contact .first).level = .closed ∧
                s.plant.arb.mode ≠ .heat
              then min 255 (s.plant.prot.ignored + 1) else s.plant.prot.ignored }) ∧
      t.drive = s.drive ∧ t.member = s.member ∧ t.setpoints = s.setpoints

/-- A SETPOINT frame in the zone role is worked through its stages and stored, the demand is recomputed,
and one addressed to the station is answered with figures and marks where a reply can be placed; a plant
answers ROLE and is not changed by it (R36 to R41). -/
def Obligations.SetpointFrameIsWorked : Prop :=
  ∀ (s : State) (f : Frame) (rest : List Frame), s.atFront f rest → f.isKind .setpoint = true →
    s.member.station ≠ .start → f.src.toNat ≠ s.address →
    (s.role = .zone →
      ∃ t w, exec .setpoint s = .next t ∧
        w = s.setpoints.work s.cfg (setpointField f.body 0) (setpointField f.body 2)
          (setpointField f.body 4) ∧
        t.setpoints = { s.setpoints with figures := w.1 } ∧
        recomputed t ∧ evaluated s.demand.wanted t ∧ shareToldOfDemand s t ∧
        (s.member.station = .online → s.line.replies < 3 → f.dest.toNat ≠ 0 → f.src.toNat ≠ 0 →
          ({ kind := .setpointReply, dest := f.src.toNat, body := some (replyBody w.1 w.2),
             lost := 0, inFlight := false, use := .plain } : TxEntry) ∈ t.line.queue) ∧
        t = { s with
          setpoints := t.setpoints, demand := t.demand, share := t.share, line := t.line }) ∧
    (s.role = .plant →
      ∃ t, exec .setpoint s = .next t ∧ t = { s with line := t.line } ∧ t.line.pair = rest ∧
        (s.member.station = .online → s.line.replies < 3 → f.dest.toNat ≠ 0 → f.src.toNat ≠ 0 →
          t.line.queue = s.line.queue ++
            [{ kind := .setpointReply, dest := f.src.toNat, body := some [3], lost := 0,
               inFlight := false, use := .plain }]) ∧
        ((f.dest.toNat = 0 ∨ f.src.toNat = 0 ∨ s.member.station ≠ .online) →
          t.line = { s.line with pair := rest }))

/-- A SETPOINT worked with a lock span of 0 or more, from figures and home values in their ranges, leaves
figures in their ranges and 20 apart, with the panel lock on or off. With the lock off a heat figure given
in its range stands, and so does a cool figure given without one; with it on a heat figure given lies
within the span of its home value. A humidity not given stands, and a heat or cool figure not given moves
only by a push that its mark tells (R34, R37 to R39). -/
def Obligations.SetpointStagesKeepTheirDistance : Prop :=
  ∀ (p : Setpoints) (c : Config.Product) (h k y : Option Int), p.figures.wf → p.home.wf →
    0 ≤ c.lockSpan →
    (p.work c h k y).1.wf ∧
    (c.panelLock = false → ∀ v, h = some v → 100 ≤ v → v ≤ 300 → (p.work c h k y).1.heat = v) ∧
    (c.panelLock = false → ∀ v, k = some v → h = none → 120 ≤ v → v ≤ 320 →
      (p.work c h k y).1.cool = v) ∧
    (h = none → k = none → (p.work c h k y).1.heat = p.figures.heat ∧
      (p.work c h k y).1.cool = p.figures.cool) ∧
    (h = none → (p.work c h k y).1.heat = p.figures.heat ∨
      (p.work c h k y).2.heatPushed = true) ∧
    (k = none → (p.work c h k y).1.cool = p.figures.cool ∨
      (p.work c h k y).2.coolPushed = true) ∧
    (y = none → (p.work c h k y).1.humidity = p.figures.humidity) ∧
    (c.panelLock = true → ∀ v, h = some v →
      p.home.heat - c.lockSpan ≤ (p.work c h k y).1.heat ∧
      (p.work c h k y).1.heat ≤ p.home.heat + c.lockSpan)

/-- A period timer's expiry places the own announcement and starts again, or with an attempt in flight
sets the prompt-waiting mark; a spacing timer's expiry places one if the mark is set. The zone's and the
plant's timers follow one pattern (R55, R57, R138, R140). -/
def Obligations.AnnouncementTimersPlace : Prop :=
  (∀ (s : State) (c : Instr) (d : Nat), s.held = false → s.member.station = .online →
    ((c = .announcePeriodExpiry ∧ s.role = .zone) ∨
      (c = .statusPeriodExpiry ∧ s.role = .plant)) →
    s.announcer.period = .running d → (∀ e ∈ s.line.queue, e.kind ≠ .rollCall) →
    ∃ t, exec c s = .next t ∧
      t.announcer.period = .running (max s.now d + periodMs s.role) ∧
      ((∀ e ∈ s.line.queue, e.kind.periodic = false) →
        t.line.queue = s.line.queue ++
          [{ kind := ownKind s.role, dest := 0, body := none, lost := 0, inFlight := false,
             use := .plain }] ∧
        t.announcer.waiting = s.announcer.waiting) ∧
      ((∃ e ∈ s.line.queue, e.kind = ownKind s.role ∧ e.inFlight = true) →
        t.line = s.line ∧ t.announcer.waiting = true) ∧
      t.announcer.spacing = s.announcer.spacing ∧ t.announcer.last = s.announcer.last ∧
      t = { s with
        now := max s.now d, line := t.line, demand := t.demand, plant := t.plant }) ∧
  (∀ (s : State) (c : Instr) (d : Nat), s.held = false → s.member.station = .online →
    ((c = .spacingExpiry ∧ s.role = .zone) ∨
      (c = .statusSpacingExpiry ∧ s.role = .plant)) →
    s.announcer.spacing = .running d → (∀ e ∈ s.line.queue, e.kind.periodic = false) →
    ∃ t, exec c s = .next t ∧ t.announcer.spacing = .stopped ∧
      (s.announcer.waiting = true →
        t.line.queue = s.line.queue ++
          [{ kind := ownKind s.role, dest := 0, body := none, lost := 0, inFlight := false,
             use := .plain }] ∧
        t.announcer.period = .running (max s.now d + periodMs s.role)) ∧
      (s.announcer.waiting = false →
        t.line = s.line ∧ t.announcer.period = s.announcer.period) ∧
      t.announcer.waiting = s.announcer.waiting ∧
      t = { s with
        now := max s.now d, line := t.line, demand := t.demand, plant := t.plant })

/-- In ONLINE an own event of the part that gives a prompt cause has it acted on by the announcement
state, and one that gives none leaves the line and the announcement timing: the sample and contact
expiries, the drive's steps, aging, and in a plant the plant timer and the reckoning's end (R56, R57,
R139, R140; log entry 28 on several causes at once). -/
def Obligations.PromptCausesAreActedOn : Prop :=
  ∀ (s : State) (c : Instr), s.held = false → s.member.station = .online →
    (∀ e ∈ s.line.queue, e.kind.periodic = true → e.kind = ownKind s.role) →
    ((∃ a b, c = .sampleTimerExpiry a b) ∨ (∃ k, c = .debounceExpiry k) ∨
      (∃ a b, c = .homingStep a b) ∨ (∃ a b, c = .moveStep a b) ∨ c = .agingExpiry ∨
      (s.role = .plant ∧ (c = .plantTimerExpiry ∨ c = .plantReckoningEnd))) →
    ∃ t, exec c s = .next t ∧
      (promptArises c s t → prompted s t) ∧
      (¬promptArises c s t → t.line = s.line ∧ t.announcer = s.announcer)

/-! ### The share unit and the damper drive -/

/-- A share reckoning's end stores the outcome, the standing position and the hand-over by the deadband,
and begins one more exactly if the pending mark was set. Within the deadband, in a hold and without a
position the drive stands, its end-stop's level as read apart; a zone's plant block stands (R63, R65 to
R67, R79). -/
def Obligations.ShareReckoningEndStoresItsOutcome : Prop :=
  ∀ (s : State) (f : ShareFlight) (out : ShareRecord) (endStop : Bool), s.held = false →
    s.share.flight = some f → f.phase = .computing →
    out = shareOutcome s.role s.cfg f.snapshot →
    ∃ t, exec (.shareReckoningEnd endStop) s = .next t ∧
      t.share.record =
        { out with
          handed := out.position.map fun p =>
            decide (12 ≤ max p s.drive.target - min p s.drive.target) ||
              ((p == 0 || p == 1200) && p != s.drive.target) } ∧
      t.share.standing = out.position.getD s.share.standing ∧
      t.share.mark = false ∧ t.share.flight.isSome = s.share.mark ∧
      (∀ p, out.position = some p → s.drive.hold.isRunning = false →
        (12 ≤ max p s.drive.target - min p s.drive.target ∨
          ((p = 0 ∨ p = 1200) ∧ p ≠ s.drive.target)) → t.drive.target = p) ∧
      (∀ p, out.position = some p →
        ¬(12 ≤ max p s.drive.target - min p s.drive.target ∨
          ((p = 0 ∨ p = 1200) ∧ p ≠ s.drive.target)) →
        t.drive = { s.drive with endStop := endStop }) ∧
      (out.position = none → t.drive = { s.drive with endStop := endStop }) ∧
      (s.drive.hold.isRunning = true → t.drive = { s.drive with endStop := endStop }) ∧
      (s.role = .zone → t.plant = s.plant) ∧
      (s.role = .plant → t.plant = { s.plant with
        unplaced := out.unplaced, announcer := t.plant.announcer }) ∧
      (f.snapshot.online = false → out.case = .fallback ∧ out.cause = some .notOnline ∧
        out.position = some s.cfg.fallback) ∧
      (f.snapshot.online = true → f.snapshot.silent = true → out.case = .fallback ∧
        out.cause = some .plantSilent ∧ out.position = some s.cfg.fallback) ∧
      (f.snapshot.online = true → f.snapshot.silent = false →
        ∀ r, f.snapshot.source = some r →
          (r.mode = .idle ∨ r.mode = .lockout ∨ r.phases.defrost = true) →
          out.case = .hold ∧ out.position = none ∧
          out.cause = some (if r.mode = .idle then .idle
            else if r.mode = .lockout then .lockout else .defrost)) ∧
      t = { s with
        now := max s.now f.due, share := t.share, drive := t.drive, plant := t.plant,
        demand := t.demand, line := t.line }

/-- The scaled claims and the relief shares of any counted zones together never exceed the Qb used, and
neither does the airflow delivered, so the unplaced airflow is never negative (R72, R73, R75, R81). -/
def Obligations.SharesNeverExceedTheBlower : Prop :=
  ∀ (mode : PlantMode) (qb : Nat) (zones : List Counted),
    (zones.map (termsOf mode qb zones).scaled).sum +
      (zones.map (termsOf mode qb zones).relief).sum ≤ qb ∧
    (zones.map (termsOf mode qb zones).delivered).sum ≤ qb

/-- By a table of nine non-decreasing positions, a fraction of 125 k permille gives the entry k, and a
larger fraction never gives a lower position (R77). -/
def Obligations.LookupFollowsTheTable : Prop :=
  ∀ table : List Nat, table.length = 9 → table.Pairwise (· ≤ ·) →
    (∀ k, k ≤ 8 → some (lookup table (125 * k)) = table[k]?) ∧
    ∀ f g, f ≤ g → g ≤ 1000 → lookup table f ≤ lookup table g

/-- In a formula case the zones counted, the claims and the relief sum are those of the FRESH ZONE entries,
with the own record in a zone. A zone works its claim, scaled claim and relief share, is CLOSED at pos_min
with a target airflow of 0 and otherwise stands at its table position, never below pos_min. In a plant
each zone takes its airflow up to its design airflow, and the bypass stands at the table position of what
stays unplaced, and closes without any (R69 to R78, R81, R82). -/
def Obligations.PositionsFollowTheirAirflow : Prop :=
  (∀ (c : Config.Product) (s : ShareSnapshot) (r : PlantRecord), s.online = true →
    s.silent = false → s.source = some r →
    (r.mode = .heat ∨ r.mode = .cool ∨ r.mode = .dry ∨ r.mode = .changeover) →
    r.phases.defrost = false →
    ∃ g o, (shareOutcome .zone c s).figures = some g ∧ g.roleShare = .own o ∧
      g.qbUsed = r.qb ∧ g.pool = r.qb - min g.claims r.qb ∧
      sumsOver r.mode (s.own.counted :: countedZones s.entries) g ∧
      o.target = airflowUnder r.mode g s.own.counted ∧
      (o.served = true ↔ (r.mode = .heat ∧ s.own.wanted = .heat) ∨
        ((r.mode = .cool ∨ r.mode = .dry) ∧ (s.own.wanted = .cool ∨ s.own.wanted = .dry))) ∧
      o.claim = (if o.served then (s.own.qd * max s.own.demand 30 + 99) / 100 else 0) ∧
      o.scaled = (if r.qb < g.claims then o.claim * r.qb / g.claims else o.claim) ∧
      o.relief =
        (if 0 < s.own.relief ∧ s.own.reliefAvailable = true ∧
            (s.own.wanted = .none ∨ o.served = true) then
          (if g.reliefSum ≤ g.pool then s.own.relief else g.pool * s.own.relief / g.reliefSum)
        else 0) ∧
      o.target = o.scaled + o.relief ∧ o.fraction = min 1000 (o.target * 1000 / s.own.qd) ∧
      (o.target = 0 → (shareOutcome .zone c s).case = .closed ∧
        (shareOutcome .zone c s).position = some c.posMin) ∧
      (o.target ≠ 0 →
        (shareOutcome .zone c s).case = (if o.served then .served else .relief) ∧
        (shareOutcome .zone c s).position = some (max c.posMin (lookup c.table o.fraction))) ∧
      (r.mode = .changeover → g.claims = 0 ∧ g.pool = r.qb)) ∧
  (∀ (c : Config.Product) (s : ShareSnapshot) (r : PlantRecord), s.online = true →
    s.silent = false → s.source = some r →
    (r.mode = .heat ∨ r.mode = .cool ∨ r.mode = .dry ∨ r.mode = .changeover) →
    r.phases.defrost = false →
    ∃ g b p, (shareOutcome .plant c s).figures = some g ∧ g.roleShare = .bypass b ∧
      (shareOutcome .plant c s).position = some p ∧ b.delivered + b.unplaced = r.qb ∧
      g.qbUsed = r.qb ∧ sumsOver r.mode (countedZones s.entries) g ∧
      b.delivered =
        ((countedZones s.entries).map fun z => min z.qd (airflowUnder r.mode g z)).sum ∧
      (c.qbp = 0 → p = 0 ∧ b.fraction = none) ∧
      (c.qbp ≠ 0 → b.unplaced = 0 → p = 0 ∧ b.fraction = some 0) ∧
      (c.qbp ≠ 0 → b.unplaced ≠ 0 →
        b.fraction = some (min 1000 (b.unplaced * 1000 / c.qbp)) ∧
        p = lookup c.table (min 1000 (b.unplaced * 1000 / c.qbp))) ∧
      (shareOutcome .plant c s).case = (if p = 0 then .closed else .relief))

/-- The alignment's end enters HOMING, or with the end-stop sensed ends the run at once with the pattern
held, for 200 ms in IDLE. A homing step is one place back in the phase pattern, the first after the
alignment at the place held; a stall or the 1320th step without the end-stop enters FAULT, the end-stop
ends the run at count 0, and otherwise the run goes on, the steps since the end-stop as they were (log
entry 31: the model's choice). The settling's end turns the phases off (R85 to R88, R95, R96, R103; log
entry 24 on the phases before a first step). -/
def Obligations.HomingRunIsJudged : Prop :=
  (∀ (s : State) (d : Nat) (endStop : Bool), s.held = false → s.drive.state = .unhomed →
    s.drive.alignment = .running d →
    ∃ t, exec (.alignmentEnd endStop) s = .next t ∧
      t = { s with now := max s.now d, drive := t.drive } ∧
      (endStop = false → t.drive =
        { s.drive with
          state := .homing, count := none, stuckSteps := 0, rehomeDue := false, retry := false,
          homingSteps := 0, settle := .stopped, alignment := .stopped, endStop := false,
          step := .running (max s.now d + 5) }) ∧
      (endStop = true → t.drive.count = some 0 ∧ t.drive.target = s.drive.target ∧
        t.drive.phasePlace = s.drive.phasePlace ∧ t.drive.aligned = false ∧
        t.drive.state = (if s.drive.target = 0 then .idle else .moving) ∧
        (s.drive.target = 0 → t.drive.phasesOn = true ∧
          t.drive.settle = .running (max s.now d + 200)))) ∧
  (∀ (s : State) (d : Nat) (stall endStop : Bool), s.held = false → s.drive.state = .homing →
      s.drive.step = .running d →
      ∃ t, exec (.homingStep stall endStop) s = .next t ∧
        t.drive.phasePlace =
          (if s.drive.aligned then s.drive.phasePlace else s.drive.phasePlace - 1) ∧
        t.drive.aligned = false ∧ t.drive.target = s.drive.target ∧
        (stall = true → t.drive.state = .fault ∧ t.drive.count = none ∧ t.drive.phasesOn = false ∧
          t.drive.cause = (if s.drive.retry then .stall else .homeFail)) ∧
        (stall = false → endStop = true → t.drive.count = some 0 ∧ t.drive.sinceStop = 0 ∧
          t.drive.phasesOn = true ∧
          t.drive.state = (if s.drive.target = 0 then .idle else .moving)) ∧
        (stall = false → endStop = false → 1319 ≤ s.drive.homingSteps →
          t.drive.state = .fault ∧ t.drive.cause = .homeFail ∧ t.drive.count = none) ∧
        (stall = false → endStop = false → s.drive.homingSteps < 1319 →
          t.drive =
            { s.drive with
              homingSteps := s.drive.homingSteps + 1, phasePlace := t.drive.phasePlace,
              aligned := false, phasesOn := true, endStop := false, step := .running (max s.now d + 5) }) ∧
        t = { s with
          now := max s.now d, drive := t.drive, demand := t.demand, plant := t.plant,
          line := t.line }) ∧
  (∀ (s : State) (d : Nat), s.held = false → s.drive.settle = .running d →
    exec .settleEnd s = .next
      { s with
        now := max s.now d, drive := { s.drive with settle := .stopped, phasesOn := false } })

/-- A step of a move is one place forward in the phase pattern to open and one back to close; it is judged
for a stall, counted, checked against the end-stop and tested for completion (R90 to R96, R103). -/
def Obligations.MoveStepIsJudged : Prop :=
  ∀ (s : State) (d p : Nat) (stall endStop : Bool), s.held = false → s.drive.state = .moving →
    s.drive.count = some p → p ≠ s.drive.target → s.drive.step = .running d →
    s.drive.stuckSteps < 24 →
    ∃ t, exec (.moveStep stall endStop) s = .next t ∧ t.drive.target = s.drive.target ∧
      (s.drive.aligned = false → t.drive.phasePlace =
        (if p < s.drive.target then s.drive.phasePlace + 1 else s.drive.phasePlace - 1)) ∧
      (stall = true → s.drive.stallCount = 0 → endStop = false →
        t.drive.state = .homing ∧ t.drive.retry = true ∧ t.drive.stallCount = 1 ∧
        t.drive.count = none) ∧
      (stall = true → s.drive.stallCount = 0 → endStop = true →
        t.drive.count = some 0 ∧ t.drive.sinceStop = 0 ∧
        t.drive.state = (if s.drive.target = 0 then .idle else .moving)) ∧
      (stall = true → s.drive.stallCount ≠ 0 →
        t.drive.state = .fault ∧ t.drive.cause = .stall ∧ t.drive.stallCount = 2 ∧
        t.drive.count = none ∧ t.drive.phasesOn = false) ∧
      (stall = false → p < s.drive.target →
        (endStop = true → s.drive.stuckSteps = 23 →
          t.drive.state = .fault ∧ t.drive.cause = .endStopStuck ∧ t.drive.count = none) ∧
        ((endStop = false ∨ s.drive.stuckSteps < 23) →
          t.drive.count = some (p + 1) ∧ t.drive.phasePlace = s.drive.phasePlace + 1 ∧
          t.drive.stuckSteps = (if endStop then s.drive.stuckSteps + 1 else 0) ∧
          t.drive.state = (if p + 1 = s.drive.target then .idle else .moving) ∧
          (p + 1 = s.drive.target →
            t.drive.completed = (s.drive.completed + 1) % 256 ∧
            t.drive.settle = .running (max s.now d + 200)) ∧
          t.drive.slip = s.drive.slip)) ∧
      (stall = false → s.drive.target < p → endStop = true →
        t.drive.count = some 0 ∧ t.drive.sinceStop = 0 ∧
        t.drive.slip = (s.drive.slip || decide (24 < p - 1)) ∧
        t.drive.slipCount =
          (if 24 < p - 1 then min 255 (s.drive.slipCount + 1) else s.drive.slipCount) ∧
        t.drive.state = (if s.drive.target = 0 then .idle else .moving)) ∧
      (stall = false → s.drive.target < p → endStop = false →
        (p - 1 ≠ s.drive.target → t.drive.count = some (p - 1) ∧ t.drive.state = .moving) ∧
        (p - 1 = s.drive.target → (s.drive.target ≠ 0 ∨ s.drive.sinceStop < 24) →
          t.drive.count = some (p - 1) ∧ t.drive.state = .idle ∧
          t.drive.closedNotConfirmed = s.drive.closedNotConfirmed) ∧
        (p = 1 → s.drive.target = 0 → 24 ≤ s.drive.sinceStop →
          t.drive.closedNotConfirmed = true ∧ t.drive.state = .homing ∧ t.drive.count = none ∧
          t.drive.completed = (s.drive.completed + 1) % 256)) ∧
      t = { s with
        now := max s.now d, drive := t.drive, demand := t.demand, plant := t.plant,
        line := t.line }

/-- A hold's end, by its timer, gives the drive the standing position as its target without the
deadband: a drive at rest there stays, one elsewhere begins its move or its homing, one that moves has its
target replaced and is complete if it is there, and a drive that is not homed only stores it (R89, R91,
R93, R99). -/
def Obligations.HoldEndsAtTheStandingPosition : Prop :=
  ∀ (s : State) (d : Nat) (endStop : Bool), s.held = false → s.drive.hold = .running d →
    ∃ t, exec (.holdTimerExpiry endStop) s = .next t ∧
      t.drive.hold = .stopped ∧ t.drive.target = s.share.standing ∧
      (s.drive.state = .idle → s.drive.count = some s.share.standing →
        t.drive.state = .idle ∧ t.drive.count = s.drive.count) ∧
      (s.drive.state = .idle → s.drive.count ≠ some s.share.standing →
        s.drive.rehomeDue = false →
        t.drive.state = .moving ∧ t.drive.count = s.drive.count ∧ t.drive.stallCount = 0 ∧
        t.drive.step = .running (max s.now d + 5)) ∧
      (s.drive.state = .idle → s.drive.count ≠ some s.share.standing →
        s.drive.rehomeDue = true → t.drive.rehomeDue = false ∧
        (endStop = false → t.drive.state = .homing ∧ t.drive.count = none) ∧
        (endStop = true → t.drive.count = some 0 ∧
          t.drive.state = (if s.share.standing = 0 then .idle else .moving))) ∧
      (s.drive.state = .moving → s.drive.count = some s.share.standing →
        t.drive.completed = (s.drive.completed + 1) % 256 ∧ t.drive.stallCount = 0 ∧
        ((s.share.standing ≠ 0 ∨ s.drive.sinceStop ≤ 24) →
          t.drive.state = .idle ∧ t.drive.count = s.drive.count ∧ t.drive.step = .stopped ∧
          t.drive.settle = .running (max s.now d + 200) ∧
          t.drive.closedNotConfirmed = s.drive.closedNotConfirmed) ∧
        (s.share.standing = 0 → 24 < s.drive.sinceStop → t.drive.closedNotConfirmed = true ∧
          (endStop = false → t.drive.state = .homing ∧ t.drive.count = none) ∧
          (endStop = true → t.drive.state = .idle ∧ t.drive.count = some 0))) ∧
      (((s.drive.state = .moving ∧ s.drive.count ≠ some s.share.standing) ∨
          s.drive.state = .unhomed ∨ s.drive.state = .homing ∨ s.drive.state = .fault) →
        t.drive =
          { s.drive with
            hold := .stopped, target := s.share.standing, endStop := endStop }) ∧
      t = { s with
        now := max s.now d, drive := t.drive, demand := t.demand, plant := t.plant,
        line := t.line }

/-! ### The plant sequencer -/

/-- A plant timer expiry moves Qb toward Qt by the slew, never past it, with the fan output, counts the
high-limit boost, starts again, triggers a reckoning, and tells the share unit of a changed Qb; each
reckoning that the expiry begins copies the own record with the stepped Qb (R23, R105, R131, R135,
R150). -/
def Obligations.PlantTimerSlewsTheBlower : Prop :=
  ∀ (s : State) (d : Nat), s.held = false → s.role = .plant → s.plant.timer = .running d →
    ∃ t, exec .plantTimerExpiry s = .next t ∧
      t.plant.timer = .running (max s.now d + 5000) ∧
      t.plant.air.qb =
        (if s.plant.air.qb < s.plant.air.qt then min s.plant.air.qt (s.plant.air.qb + s.cfg.slew)
         else max s.plant.air.qt (s.plant.air.qb - s.cfg.slew)) ∧
      (t.plant.air.qb ≠ s.plant.air.qb →
        t.plant.air.fanOut = t.plant.air.qb * 100 / s.cfg.qmax ∧ toldShare s t) ∧
      (t.plant.air.qb = s.plant.air.qb → t.plant.air = s.plant.air ∧ t.share = s.share) ∧
      t.plant.air.qt = s.plant.air.qt ∧ t.plant.air.kc = s.plant.air.kc ∧
      t.plant.prot =
        { s.plant.prot with
          boost := if s.plant.prot.highLimit then min 5 (s.plant.prot.boost + 1)
            else s.plant.prot.boost } ∧
      toldPlant s t ∧ t.plant.arb = s.plant.arb ∧
      (s.plant.flight = none → ∀ f, t.plant.flight = some f →
        f.own = t.plantRecord ∧ f.prot = t.plant.prot ∧ f.entries = s.member.table) ∧
      (s.share.flight = none → ∀ f, t.share.flight = some f →
        f.snapshot.source = some t.plantRecord) ∧
      t = { s with now := max s.now d, plant := t.plant, share := t.share, line := t.line }

/-- The min-on, min-off, dwell, frost, trip and overlong timers each report expired from their expiry and
trigger a reckoning; the changeover pause is over at its expiry, its timer stopped (log entry 21: the
model's reading of R104 and R120), and ends min-off as expired. Nothing else of the plant changes (R116 to
R118, R120, R145, R147, R153). -/
def Obligations.SequencerTimersReportExpired : Prop :=
  ∀ (s : State) (c : Instr) (d : Nat) (arb : Arbitration) (prot : Protection),
    s.held = false → s.role = .plant →
    ((c = .minOnExpiry ∧ s.plant.arb.minOn = .running d ∧
        arb = { s.plant.arb with minOn := .expired } ∧ prot = s.plant.prot) ∨
      (c = .minOffExpiry ∧ s.plant.arb.minOff = .running d ∧
        arb = { s.plant.arb with minOff := .expired } ∧ prot = s.plant.prot) ∨
      (c = .dwellExpiry ∧ s.plant.arb.dwell = .running d ∧
        arb = { s.plant.arb with dwell := .expired } ∧ prot = s.plant.prot) ∨
      (c = .changeoverPauseExpiry ∧ s.plant.arb.pause = .running d ∧
        s.plant.arb.minOff ≠ .stopped ∧
        arb = { s.plant.arb with pause := .stopped, minOff := .expired } ∧
        prot = s.plant.prot) ∨
      (c = .frostTimerExpiry ∧ s.plant.prot.frostTimer = .running d ∧
        prot = { s.plant.prot with frostTimer := .expired } ∧ arb = s.plant.arb) ∨
      (c = .tripTimerExpiry ∧ s.plant.prot.tripTimer = .running d ∧
        prot = { s.plant.prot with tripTimer := .expired } ∧ arb = s.plant.arb) ∨
      (c = .defrostOverlongExpiry ∧ s.plant.prot.overlong = .running d ∧
        prot = { s.plant.prot with overlong := .expired } ∧ arb = s.plant.arb)) →
    ∃ t, exec c s = .next t ∧
      t = { s with
        now := max s.now d
        plant :=
          { s.plant with
            arb := arb, prot := prot, flight := t.plant.flight, mark := t.plant.mark } } ∧
      toldPlant s t

/-- A plant reckoning's end stores the weighted sums and makes the transition its tests give: LOCKOUT, its
cause worked again, and its end, a held or made start, a changeover and its end, a switch of the cool
side, a run held, a stop. A mode is entered with a trip count of 0, the frost guard noted clear as it is
outside the cool side (EveryStepKeepsThePlantCoherent). The next reckoning begins exactly after a change
of plant state, the frost lockout newly set, or a pending mark; a void one only stores the sums (R107 to
R123, R125, R148). -/
def Obligations.PlantReckoningMakesItsTransition : Prop :=
  ∀ (s : State) (f : PlantFlight) (hs cs ys k : Nat), s.held = false → s.plant.flight = some f →
    f.phase = .computing → hs = wantedSum f.entries .heat → cs = wantedSum f.entries .cool →
    ys = wantedSum f.entries .dry → k = cs + ys →
    ∃ t, exec .plantReckoningEnd s = .next t ∧
      t.plant.arb.hs = hs ∧ t.plant.arb.cs = cs ∧ t.plant.arb.ys = ys ∧ t.plant.mark = false ∧
      (f.void = true →
        t.plant.arb = { s.plant.arb with hs := hs, cs := cs, ys := ys } ∧
        t.plant.prot = s.plant.prot ∧ t.plant.air = s.plant.air ∧
        t.plant.flight.isSome = s.plant.mark) ∧
      (f.void = false → (t.plant.flight.isSome = true ↔
        s.plant.mark = true ∨ t.plant.arb.mode ≠ s.plant.arb.mode ∨
          (t.plant.arb.frostLockout = true ∧ s.plant.arb.frostLockout = false))) ∧
      (f.void = false → f.online = false → t.plant.arb.mode = s.plant.arb.mode) ∧
      (f.void = false → f.online = true → f.arb.mode ≠ .lockout →
        (f.outdoorFault = true ∨ f.arb.frostLockout = true) →
        t.plant.arb.mode = .lockout ∧ t.plant.arb.valve = false ∧ t.plant.air.call = false ∧
        t.plant.arb.minOff = .running (max s.now f.due + 180000) ∧
        t.plant.arb.cause = (if f.outdoorFault then .outdoorFault else .frostLockout)) ∧
      (f.void = false → f.online = true → f.arb.mode = .lockout →
        (f.outdoorFault = true ∨ f.arb.frostLockout = true ∨ f.arb.minOff ≠ .expired) →
        t.plant.arb.mode = s.plant.arb.mode ∧
        t.plant.arb.cause = (if f.outdoorFault then .outdoorFault
          else if f.arb.frostLockout then .frostLockout else f.arb.cause)) ∧
      (f.void = false → f.online = true → f.outdoorFault = false →
        f.arb.frostLockout = false →
        (f.arb.mode = .idle → f.arb.minOff.isRunning = true → (20 ≤ hs ∨ 20 ≤ k) →
          t.plant.arb.startHeld = true ∧ t.plant.arb.mode = s.plant.arb.mode) ∧
        (f.arb.mode = .idle → hs < 20 → k < 20 →
          t.plant.arb.startHeld = false ∧ t.plant.arb.mode = s.plant.arb.mode) ∧
        ((f.arb.mode = .idle ∧ f.arb.minOff.isRunning = false) ∨
            (f.arb.mode = .changeover ∧ f.arb.pause.isRunning = false) →
          ((20 ≤ hs ∨ 20 ≤ k) →
            t.plant.arb.mode =
              (if k ≤ hs ∧ 20 ≤ hs then .heat else if ys ≤ cs then .cool else .dry) ∧
            t.plant.arb.valve = decide (k ≤ hs ∧ 20 ≤ hs) ∧
            t.plant.arb.minOn = .running (max s.now f.due + 120000) ∧
            t.plant.arb.dwell = .running (max s.now f.due + 1000 * s.cfg.dwell) ∧
            t.plant.arb.minOff = .stopped ∧ t.plant.prot.tripCount ≤ 1 ∧
            (f.prot.guard = false → t.plant.prot.tripCount = 0))) ∧
        (f.arb.mode = .heat → f.arb.dwell = .expired → hs + s.cfg.margin < k →
          t.plant.arb.mode = .changeover ∧ t.plant.arb.valve = false ∧
          t.plant.air.call = false ∧
          t.plant.arb.pause = .running (max s.now f.due + 180000) ∧
          t.plant.arb.minOff = .running (max s.now f.due + 180000)) ∧
        (((f.arb.mode = .heat ∧ hs = 0 ∧ (k ≤ hs + s.cfg.margin ∨ f.arb.dwell ≠ .expired)) ∨
            ((f.arb.mode = .cool ∨ f.arb.mode = .dry) ∧ k = 0 ∧
              (hs ≤ k + s.cfg.margin ∨ f.arb.dwell ≠ .expired))) →
          (f.arb.minOn = .expired →
            t.plant.arb.mode = .idle ∧ t.plant.arb.valve = false ∧ t.plant.air.call = false ∧
            t.plant.arb.minOff = .running (max s.now f.due + 180000)) ∧
          (f.arb.minOn.isRunning = true →
            t.plant.arb.mode = s.plant.arb.mode ∧ t.plant.arb.runHeld = true)) ∧
        (f.arb.mode = .heat → hs ≠ 0 → (k ≤ hs + s.cfg.margin ∨ f.arb.dwell ≠ .expired) →
          t.plant.arb.mode = s.plant.arb.mode ∧ t.plant.arb.runHeld = false) ∧
        ((f.arb.mode = .cool ∨ f.arb.mode = .dry) → f.arb.dwell = .expired →
          k + s.cfg.margin < hs → t.plant.arb.mode = .changeover ∧
          t.plant.arb.pause = .running (max s.now f.due + 180000)) ∧
        ((f.arb.mode = .cool ∨ f.arb.mode = .dry) → k ≠ 0 →
          (hs ≤ k + s.cfg.margin ∨ f.arb.dwell ≠ .expired) →
          t.plant.arb.runHeld = false ∧
          t.plant.arb.mode =
            (if f.arb.mode = .cool ∧ cs + 40 < ys then .dry
            else if f.arb.mode = .dry ∧ ys + 40 < cs then .cool else s.plant.arb.mode)) ∧
        (f.arb.mode = .changeover → f.arb.pause.isRunning = true →
          t.plant.arb.mode = s.plant.arb.mode) ∧
        (f.arb.mode = .changeover → f.arb.pause.isRunning = false → hs < 20 → k < 20 →
          t.plant.arb.mode = .idle) ∧
        (f.arb.mode = .lockout → f.arb.minOff = .expired →
          t.plant.arb.mode = .idle ∧ t.plant.arb.cause = .none)) ∧
      t.drive = s.drive ∧ t.setpoints = s.setpoints ∧ t.sensing = s.sensing ∧
      t.member = s.member

/-- The figures a plant reckoning's end leaves, under the plant state and phases that then stand: the
effective minimum, the served claims and their weighted mean demand, the blower target, Qb dropped with a
target of 0, and the capacity with its call (R126 to R130, R132 to R135, R151). -/
def Obligations.AirAndCapacityFollowThePlantState : Prop :=
  ∀ (s : State) (f : PlantFlight) (zs : List ZoneRecord) (low sp base : Nat),
    s.held = false → s.PlantWf →
    s.plant.flight = some f → f.phase = .computing → f.void = false → f.online = true →
    ∃ t, exec .plantReckoningEnd s = .next t ∧
      (low = t.plant.air.qminEff →
        zs = (f.entries.filterMap Entry.freshZone).filter (servedUnder t.plant.arb.mode) →
        sp = (zs.map fun r => (r.qd * max r.demand 30 + 99) / 100).sum →
        base = s.cfg.kmin + (100 - s.cfg.kmin) * t.plant.air.dw / 100 →
        t.plant.air.sp = sp ∧
        t.plant.air.dw = (zs.map fun r => r.weight * r.demand).sum / (zs.map ZoneRecord.weight).sum ∧
        (t.plant.arb.mode = .heat → low = s.cfg.qminHeat) ∧
        (t.plant.arb.mode = .cool → low = if t.plant.prot.guard
          then min s.cfg.qmax ((s.cfg.qminCool * 125 + 99) / 100) else s.cfg.qminCool) ∧
        (t.plant.arb.mode = .dry → low = if t.plant.prot.guard
          then min s.cfg.qmax ((s.cfg.qminDry * 125 + 99) / 100) else s.cfg.qminDry) ∧
        ((t.plant.arb.mode = .idle ∨ t.plant.arb.mode = .lockout) →
          t.plant.air.qt = 0 ∧ t.plant.air.kc = 0) ∧
        (t.plant.arb.mode = .changeover → t.plant.air.qt = s.cfg.qpurge ∧ t.plant.air.kc = 0) ∧
        (t.plant.arb.mode = .heat → t.plant.prot.defrost = true →
          t.plant.air.qt = (if t.plant.prot.overlongFlag then s.cfg.qminHeat else 0) ∧
          some t.plant.air.kc = t.plant.prot.heldCapacity) ∧
        (t.plant.arb.mode = .heat → t.plant.prot.defrost = false →
          (∀ q b, q = (if t.plant.arb.runHeld then low else max low (min s.cfg.qmax sp)) →
            b = (if t.plant.prot.highLimit then f.prot.boost else 0) →
            t.plant.air.qt = min s.cfg.qmax (q + q * b / 10)) ∧
          t.plant.air.kc = (if t.plant.arb.runHeld then s.cfg.kmin
            else if t.plant.prot.highLimit = true ∨ f.supplyUsable = false then min base 60
            else base)) ∧
        (t.plant.arb.mode = .cool →
          t.plant.air.qt = (if t.plant.prot.trip = true ∨ t.plant.arb.runHeld = true then low
            else max low (min s.cfg.qmax sp)) ∧
          t.plant.air.kc = (if t.plant.prot.trip then 0
            else if t.plant.arb.runHeld then s.cfg.kmin
            else if t.plant.prot.guard then min base 40 else base)) ∧
        (t.plant.arb.mode = .dry →
          t.plant.air.qt = (if t.plant.prot.trip = true ∨ t.plant.arb.runHeld = true then low
            else max low (min s.cfg.qmax (sp * 70 / 100))) ∧
          t.plant.air.kc = (if t.plant.prot.trip then 0
            else if t.plant.arb.runHeld then s.cfg.kmin
            else if t.plant.prot.guard then min (min 100 (base + 15)) 40
            else min 100 (base + 15))) ∧
        t.plant.air.qb = (if t.plant.air.qt = 0 then 0 else s.plant.air.qb) ∧
        (t.plant.air.call = true ↔ 0 < t.plant.air.kc) ∧
        t.plant.air.capOut = t.plant.air.kc ∧
        t.plant.air.fanOut = t.plant.air.qb * 100 / s.cfg.qmax)

/-- The protection phases a plant reckoning's end leaves, under the plant state that then stands: the
frost guard, the frost timer, a frost trip's beginning, standing and end with the lockout standing of the
third, the high limit, and the defrost phase with its overlong flag and held capacity (R144 to R154). -/
def Obligations.ProtectionFollowsItsConditions : Prop :=
  ∀ (s : State) (f : PlantFlight) (now : Nat), s.held = false → s.plant.flight = some f →
    f.phase = .computing → f.void = false → now = max s.now f.due →
    ∃ t, exec .plantReckoningEnd s = .next t ∧
      (t.plant.prot.guard = true ↔ (t.plant.arb.mode = .cool ∨ t.plant.arb.mode = .dry) ∧
        (f.prot.coilCold = true ∨ f.coilUsable = false)) ∧
      (t.plant.arb.mode ≠ .cool → t.plant.arb.mode ≠ .dry → t.plant.prot.trip = false ∧
        t.plant.prot.frostTimer = .stopped ∧ t.plant.prot.tripTimer = .stopped) ∧
      ((t.plant.prot.guard = false ∨ f.prot.coilFrozen = false ∨ t.plant.prot.trip = true) →
        t.plant.prot.frostTimer = .stopped) ∧
      (t.plant.prot.guard = true → f.prot.coilFrozen = true → t.plant.prot.trip = false →
        (f.prot.frostTimer = .stopped → t.plant.prot.frostTimer = .running (now + 300000)) ∧
        (f.prot.frostTimer.isRunning = true → t.plant.prot.frostTimer = s.plant.prot.frostTimer)) ∧
      ((f.arb.mode = .cool ∨ f.arb.mode = .dry) →
        (t.plant.arb.mode = .cool ∨ t.plant.arb.mode = .dry) →
        (f.prot.trip = false → f.prot.frostTimer = .expired → f.prot.coilFrozen = true →
          f.prot.guard = true →
          t.plant.prot.trip = true ∧ t.plant.prot.tripTimer = .running (now + 300000) ∧
          t.plant.prot.tripCount = min 3 (s.plant.prot.tripCount + 1) ∧
          (s.plant.prot.tripCount = 2 → t.plant.arb.frostLockout = true)) ∧
        (f.prot.trip = false →
          (f.prot.frostTimer ≠ .expired ∨ f.prot.coilFrozen = false ∨ f.prot.guard = false) →
          t.plant.prot.trip = false ∧ t.plant.prot.tripCount = s.plant.prot.tripCount) ∧
        (f.prot.trip = true → t.plant.prot.tripCount = s.plant.prot.tripCount ∧
          (f.prot.tripTimer = .expired → f.prot.coilThawed = true →
            t.plant.prot.trip = false ∧ t.plant.prot.tripTimer = .stopped) ∧
          ((f.prot.tripTimer ≠ .expired ∨ f.prot.coilThawed = false) →
            t.plant.prot.trip = true ∧ t.plant.prot.tripTimer = s.plant.prot.tripTimer))) ∧
      (t.plant.prot.highLimit = true ↔ t.plant.arb.mode = .heat ∧ f.defrostActive = false ∧
        f.prot.supplyHot = true) ∧
      t.plant.prot.boost = (if t.plant.prot.highLimit then s.plant.prot.boost else 0) ∧
      (t.plant.prot.defrost = true ↔ t.plant.arb.mode = .heat ∧ f.defrostActive = true) ∧
      (t.plant.prot.defrost = true → f.prot.defrost = false →
        t.plant.prot.overlong = .running (now + 900000) ∧ t.plant.prot.overlongFlag = false ∧
        (f.arb.mode = .heat → t.plant.prot.heldCapacity = some s.plant.air.kc)) ∧
      (t.plant.prot.defrost = true → f.prot.defrost = true →
        t.plant.prot.overlong = s.plant.prot.overlong ∧
        t.plant.prot.heldCapacity = s.plant.prot.heldCapacity ∧
        (t.plant.prot.overlongFlag = true ↔
          f.prot.overlongFlag = true ∨ f.prot.overlong = .expired)) ∧
      (t.plant.prot.defrost = false → t.plant.prot.overlong = .stopped ∧
        t.plant.prot.overlongFlag = false ∧ t.plant.prot.heldCapacity = none)

/-- The alert line is driven exactly while a condition holds that the mask selects, and is released
from a reset until START ends (R183). -/
def Obligations.AlertLineFollowsItsConditions : Prop :=
  ∀ s : State, s.alertDriven = true ↔ s.held = false ∧ s.member.station ≠ .start ∧
    ((s.cfg.alertMask.getLsbD 0 = true ∧ s.drive.state = .fault) ∨
      (s.cfg.alertMask.getLsbD 1 = true ∧
        (s.sensing.first.fault = true ∨ s.sensing.second.fault = true)) ∨
      (s.cfg.alertMask.getLsbD 2 = true ∧ s.member.station = .duplicate) ∨
      (s.cfg.alertMask.getLsbD 3 = true ∧ s.role = .zone ∧
        ∀ e ∈ s.member.table, e.standing = .fresh → e.role = .zone) ∨
      (s.cfg.alertMask.getLsbD 4 = true ∧ s.role = .plant ∧ s.plant.arb.mode = .lockout) ∨
      (s.cfg.alertMask.getLsbD 5 = true ∧ s.line.stuck = true) ∨
      (s.cfg.alertMask.getLsbD 6 = true ∧ s.configFault = true) ∨
      (s.cfg.alertMask.getLsbD 7 = true ∧
        (if s.role = .zone then 2 else 1) ≤
          (s.member.table.filter fun e => e.standing == .fresh && e.role == .plant).length))

/-! ### The zone line -/

/-- The bytes of a frame, with its check bytes, make a received frame: it is counted, restarts the
line-quiet timer, and is kept in the receive pair if it is for all or for this station, or lost to
overrun where the pair is full; the line is idle after it, with one draw. The bytes of the frame being
sent are its echo: they complete the transmission, with one draw, and are not received. Those of another
frame lose the attempt and are received all the same (R22, R157, R159 to R163, R167 to R169). -/
def Obligations.FrameBytesMakeAReceivedFrame : Prop :=
  (∀ (s : State) (f : Frame) (run : List LineByte), s.held = false → f.body.length ≤ 32 →
    bytesOnLine run f.bytes → s.line.assembly = [] → s.line.sending = none →
    ∃ t, exec (.receivedFrame run) s = .next t ∧
      t.line.assembly = [] ∧ t.line.idle = true ∧ t.line.space = false ∧
      t.line.queue = s.line.queue ∧
      (s.line.idle = true → (∀ b ∈ run.tail, b.idleBits = 0) → s.line.stuck = false →
        s.line.queue ≠ [] → t.line.sequence = (5 * s.line.sequence + 1) % 256 ∧
        t.line.wait = some (t.line.sequence / 32)) ∧
      t.member =
        { s.member with
          lineQuiet := if s.member.lineQuiet.isRunning then .running (s.now + 60000)
            else s.member.lineQuiet } ∧
      ((f.dest.toNat ≠ 0 ∧ f.dest.toNat ≠ s.address) →
        t.line.pair = s.line.pair ∧ t.line.latches = s.line.latches ∧
        t.line.counters =
          { s.line.counters with good := (s.line.counters.good + 1) % 65536 }) ∧
      ((f.dest.toNat = 0 ∨ f.dest.toNat = s.address) → s.line.pair.length < 2 →
        t.line.pair = s.line.pair ++ [f] ∧ t.line.latches = s.line.latches ∧
        t.line.counters =
          { s.line.counters with good := (s.line.counters.good + 1) % 65536 }) ∧
      ((f.dest.toNat = 0 ∨ f.dest.toNat = s.address) → 2 ≤ s.line.pair.length →
        t.line.pair = s.line.pair ∧ t.line.latches = { s.line.latches with overrun := true } ∧
        t.line.counters =
          { s.line.counters with
            good := (s.line.counters.good + 1) % 65536,
            overrun := min 255 (s.line.counters.overrun + 1) }) ∧
      t = { s with member := t.member, line := t.line }) ∧
  (∀ (s : State) (e : TxEntry) (run : List LineByte), s.held = false →
    (s.frameOf e).body.length ≤ 32 → bytesOnLine run (s.frameOf e).bytes → s.line.assembly = [] →
    s.line.sending = some e → s.line.echoed = 0 →
    ∃ t, exec (.receivedFrame run) s = .next t ∧
      t.line.queue = s.line.queue.filter (fun x => !x.inFlight) ∧ t.line.idle = true ∧
      t.line.echoed = 0 ∧ t.line.pair = s.line.pair ∧ t.line.latches = s.line.latches ∧
      t.line.counters = s.line.counters ∧
      (t.line.queue ≠ [] → s.line.stuck = false →
        t.line.sequence = (5 * s.line.sequence + 1) % 256 ∧
        t.line.wait = some (t.line.sequence / 32))) ∧
  (∀ (s : State) (f : Frame) (e : TxEntry) (before after : List TxEntry) (run : List LineByte),
    s.held = false → f.body.length ≤ 32 → bytesOnLine run f.bytes → s.line.assembly = [] →
    s.line.queue = before ++ e :: after → e.inFlight = true →
    (∀ y ∈ before ++ after, y.inFlight = false) → s.line.echoed = 0 → e.lost < 15 →
    (s.frameOf e).body.length ≤ 32 → s.frameOf e ≠ f → s.line.pair.length < 2 →
    (f.dest.toNat = 0 ∨ f.dest.toNat = s.address) →
    ∃ t, exec (.receivedFrame run) s = .next t ∧
      t.line.queue = before ++
        { e with
          lost := e.lost + 1, inFlight := false
          body := if e.kind.periodic then none else e.body } :: after ∧
      t.line.pair = s.line.pair ++ [f] ∧ t.line.assembly = [] ∧ t.line.idle = true ∧
      t.line.counters =
        { s.line.counters with
          good := (s.line.counters.good + 1) % 65536
          lostAttempts := min 255 (s.line.counters.lostAttempts + 1) } ∧
      t.line.latches = s.line.latches)

/-- A body length above 32 abandons the frame with LENGTH, check bytes that do not match with CHECK and
its counter, idle of more than 2 byte-times one in assembly with TRUNCATED, a framing error one in
assembly with FRAMING and its counter; bytes outside a frame are ignored. A line that stands in space
gives no second framing error, nor any byte, before it returns to mark. A line left in space is not idle; a line that becomes idle draws for what is queued (R157, R158, R160, R161, R167). -/
def Obligations.BadFramesAreAbandoned : Prop :=
  (∀ (s : State) (d a k n : Byte) (run : List LineByte), s.held = false → 32 < n.toNat →
    bytesOnLine run [0xC3, d, a, k, n] → s.line.assembly = [] → s.line.sending = none →
    ∃ t, exec (.length run) s = .next t ∧ t.line.assembly = [] ∧
      t.line.latches = { s.line.latches with length := true } ∧
      t.line.counters = s.line.counters ∧ t.line.pair = s.line.pair ∧
      t = { s with line := t.line }) ∧
  (∀ (s : State) (f : Frame) (x y : Byte) (run : List LineByte), s.held = false →
    f.body.length ≤ 32 → bytesOnLine run (f.bytes.take (5 + f.body.length) ++ [x, y]) →
    [x, y] ≠ f.bytes.drop (5 + f.body.length) → s.line.assembly = [] → s.line.sending = none →
    ∃ t, exec (.receivedFrame run) s = .next t ∧ t.line.assembly = [] ∧
      t.line.latches = { s.line.latches with check := true } ∧
      t.line.counters = { s.line.counters with check := min 255 (s.line.counters.check + 1) } ∧
      t.line.pair = s.line.pair ∧ t.line.queue = s.line.queue ∧ t.line.idle = true ∧
      t = { s with line := t.line }) ∧
  (∀ (s : State) (run : List LineByte), s.held = false → run ≠ [] →
    (∀ b ∈ run, b.idleBits < 20 ∨ b.value ≠ 0xC3) → s.line.assembly = [] →
    s.line.sending = none → (s.line.space = true → ∀ b ∈ run.head?, 0 < b.idleBits) →
    ∃ t, exec (.receivedFrame run) s = .next t ∧
      t = { s with
        line :=
          { s.line with
            idle := true, space := false, wait := t.line.wait, sequence := t.line.sequence } }) ∧
  (∀ s : State, s.held = false → (s.line.idle = true ∨ s.line.sending ≠ none) →
    exec (.truncated []) s = .next (if s.line.assembly = [] then s else
      { s with
        line :=
          { s.line with assembly := [], latches := { s.line.latches with truncated := true } } })) ∧
  (∀ s : State, s.held = false → s.line.idle = false → s.line.sending = none →
    ∃ t, exec (.truncated []) s = .next t ∧ t.line.idle = true ∧ t.line.space = false ∧
      t.line.assembly = [] ∧
      t.line.latches =
        (if s.line.assembly = [] then s.line.latches
        else { s.line.latches with truncated := true }) ∧
      (s.line.queue ≠ [] → s.line.stuck = false →
        t.line.sequence = (5 * s.line.sequence + 1) % 256 ∧
        t.line.wait = some (t.line.sequence / 32)) ∧
      t = { s with line := t.line }) ∧
  (∀ (s : State) (d a : Byte) (run : List LineByte), s.held = false →
    bytesOnLine run [0xC3, d, a] → s.line.assembly = [] → s.line.sending = none →
    ∃ t, exec (.truncated run) s = .next t ∧ t.line.assembly = [] ∧
      t.line.latches = { s.line.latches with truncated := true } ∧
      t.line.counters = s.line.counters ∧ t.line.pair = s.line.pair ∧
      t = { s with line := t.line }) ∧
  (∀ (s : State) (lineHeld : Bool) (b : LineByte) (run : List LineByte), s.line.space = true →
    b.idleBits = 0 → exec (.framingError 0 lineHeld) s = .next s ∧
      exec (.receivedFrame (b :: run)) s = .next s ∧ exec (.truncated (b :: run)) s = .next s ∧
      exec (.length (b :: run)) s = .next s) ∧
  (∀ (s : State) (n : Nat) (lineHeld : Bool), s.held = false → s.line.sending = none →
    (s.line.space = false ∨ 0 < n) →
    ∃ t, exec (.framingError n lineHeld) s = .next t ∧ t.line.assembly = [] ∧
      t.line.latches =
        { s.line.latches with
          framing := true
          truncated := s.line.latches.truncated ||
            (decide (20 < n) && !s.line.assembly.isEmpty) } ∧
      t.line.counters =
        { s.line.counters with framing := min 255 (s.line.counters.framing + 1) } ∧
      t.line.queue = s.line.queue ∧ t.line.pair = s.line.pair ∧
      (lineHeld = true → t.line.idle = false ∧ t.line.space = true ∧ t.line.wait = none) ∧
      (lineHeld = false → t.line.idle = true ∧ t.line.space = false ∧
        (s.line.queue ≠ [] → s.line.stuck = false →
          t.line.wait = some (t.line.sequence / 32))) ∧
      t = { s with line := t.line })

/-- An attempt starts for the entry of the lowest urgency class, placed first in it, once the line has
been idle for 3 byte-times, one more for each class and the extra drawn; a periodic body is built then,
the owner's mark is cleared, and a frame still in assembly is abandoned as truncated. Before that nothing
happens (R161, R166 to R168). -/
def Obligations.AttemptStartsAfterItsGap : Prop :=
  ∀ (s : State) (idleBits x : Nat) (before after : List TxEntry) (e : TxEntry),
    s.held = false → s.line.stuck = false → s.line.wait = some x →
    s.line.queue = before ++ e :: after → (∀ y ∈ s.line.queue, y.inFlight = false) →
    (∀ y ∈ before, e.kind.urgency < y.kind.urgency) →
    (∀ y ∈ after, e.kind.urgency ≤ y.kind.urgency) →
    (10 * (3 + e.kind.urgency + x) ≤ idleBits →
      ∃ t, exec (.attemptStart idleBits) s = .next t ∧
        t.line =
          { s.line with
            idle := false, wait := none, echoed := 0, assembly := []
            latches :=
              if s.line.assembly = [] then s.line.latches
              else { s.line.latches with truncated := true }
            queue := before ++
              { e with
                inFlight := true
                body := match e.kind with
                  | .announce => some s.zoneRecord.body
                  | .plantStatus => some s.plantRecord.body
                  | .rollCall => some [byte (roleCode s.role)]
                  | .present => e.body
                  | .setpointReply => e.body
                  | .result => e.body } :: after } ∧
        (e.kind = ownKind s.role → t.announcer.waiting = false) ∧
        t = { s with line := t.line, demand := t.demand, plant := t.plant }) ∧
    (idleBits < 10 * (3 + e.kind.urgency + x) → exec (.attemptStart idleBits) s = .next s)

/-- A transmission's completion takes its entry from the queue and tells its owner: the last announced
figure and the spacing timer, the roll-call wait, the next dump RESULT, the RESTART order that waited
for it; the line is idle, with one draw for what is still queued (R6, R57, R140, R167, R168, R179,
R181). -/
def Obligations.CompletedFrameLeavesTheQueue : Prop :=
  ∀ (s : State) (before after : List TxEntry) (e : TxEntry), s.held = false →
    s.line.queue = before ++ e :: after → e.inFlight = true →
    (∀ y ∈ before ++ after, y.inFlight = false) →
    ∃ t, exec .transmissionComplete s = .next t ∧ t.line.queue = before ++ after ∧
      t.line.idle = true ∧ t.line.echoed = 0 ∧ t.line.assembly = [] ∧
      t.line.pair = s.line.pair ∧ t.line.latches = s.line.latches ∧
      t.line.counters = s.line.counters ∧
      (before ++ after ≠ [] → s.line.stuck = false →
        t.line.sequence = (5 * s.line.sequence + 1) % 256 ∧
        t.line.wait = some (t.line.sequence / 32)) ∧
      (e.kind = ownKind s.role →
        t.announcer.spacing = .running (s.now + spacingMs s.role) ∧
        t.announcer.last = some (match s.role with
          | .zone => nat1 (e.body.getD []) 1
          | .plant => nat2 (e.body.getD []) 2)) ∧
      (e.kind = .rollCall →
        t = { s with
          line := t.line, member := { s.member with rollCallWait := .running (s.now + 250) } }) ∧
      ((e.kind = .present ∨ e.kind = .setpointReply) → t = { s with line := t.line }) ∧
      (e.kind = .result → e.use = .restart →
        s.responder.waiting = [{ done := true, dumpEnd := false }] →
        t.responder.waiting = [] ∧
        t.member.restartsHanded = s.member.restartsHanded + 1) ∧
      (∀ d, e.kind = .result → s.responder.dump = some d →
        (e.use = .dump false → t.responder.dump = some { d with nextDue := true }) ∧
        (e.use = .dump true → t.responder.dump = none)) ∧
      t.drive = s.drive ∧ t.share = s.share ∧ t.member.table = s.member.table

/-- An echo that differs from the byte sent at its place loses the attempt: it is counted and keeps its
entry, a periodic one without its body, until the sixteenth discards it as crowded, which returns a CLAIM
to LISTEN. An echo with a framing error is one, and counts as a framing error too. A byte that is the one
sent, or a place beyond the frame, is none, and changes nothing (R5, R158, R168 to R170; log entries 2
and 10). -/
def Obligations.LostAttemptIsCountedToSixteen : Prop :=
  ∀ (s : State) (before after : List TxEntry) (e : TxEntry) (matched : Nat)
    (wrong : Option Byte) (goesOn : Bool), s.held = false → s.line.queue = before ++ e :: after →
    e.inFlight = true → (∀ y ∈ before ++ after, y.inFlight = false) →
    ((s.frameOf e).bytes.length ≤ s.line.echoed + matched →
      exec (.lostAttempt matched wrong goesOn) s = .next s) ∧
    ∀ sent, (s.frameOf e).bytes[s.line.echoed + matched]? = some sent →
    (wrong = some sent → exec (.lostAttempt matched wrong goesOn) s = .next s) ∧
    (wrong = none → goesOn = false → s.line.space = false →
      exec (.framingError 0 false) s = exec (.lostAttempt matched wrong goesOn) s) ∧
    (wrong ≠ some sent → ∃ t, exec (.lostAttempt matched wrong goesOn) s = .next t ∧
      t.line.echoed = 0 ∧ t.line.idle = !goesOn ∧
      (wrong = none → t.line.latches.framing = true ∧
        t.line.counters.framing = min 255 (s.line.counters.framing + 1)) ∧
      t.line.counters.lostAttempts = min 255 (s.line.counters.lostAttempts + 1) ∧
      (e.lost < 15 →
        t.line.queue = before ++
          { e with
            lost := e.lost + 1, inFlight := false
            body := if e.kind.periodic then none else e.body } :: after ∧
        t.line.latches.crowded = s.line.latches.crowded ∧
        t.member.station = s.member.station) ∧
      (15 ≤ e.lost →
        t.line.latches.crowded = true ∧
        (e.kind ≠ .rollCall → t.line.queue = before ++ after) ∧
        (e.kind = .rollCall → s.member.station = .claim →
          t.member.station = .listen ∧ t.line.queue = [] ∧
          t.member.joinWindow = .running (s.now + 5000))) ∧
      t.drive = s.drive ∧ t.sensing = s.sensing ∧ t.setpoints = s.setpoints)

/-- The stuck condition stops the wait and sets its latch. The line's return to mark, after it was stuck or
stood in space for less, ends it and starts the idle time with a draw; on a line that does not stand in
space there is none (R157, R167, R171; log entries 2 and 9). -/
def Obligations.StuckLineStopsAttempts : Prop :=
  (∀ s : State, s.held = false → s.line.stuck = false →
    exec .stuck s = .next
      { s with
        line :=
          { s.line with
            stuck := true, space := true, idle := false, wait := none
            latches := { s.line.latches with stuck := true } } }) ∧
  (∀ s : State, s.held = false → (s.line.stuck = true ∨ s.line.space = true) →
    ∃ t, exec .stuckEnd s = .next t ∧ t.line.stuck = false ∧ t.line.space = false ∧
      t.line.idle = true ∧ t.line.queue = s.line.queue ∧ t.line.latches = s.line.latches ∧
      (s.line.queue ≠ [] → s.line.sending = none →
        t.line.sequence = (5 * s.line.sequence + 1) % 256 ∧
        t.line.wait = some (t.line.sequence / 32)) ∧
      t = { s with line := t.line }) ∧
  (∀ s : State, s.line.stuck = false → s.line.space = false → exec .stuckEnd s = .next s) ∧
  ∀ (s : State) (n : Nat), s.held = false → s.line.stuck = true →
    exec (.attemptStart n) s = .next s

/-! ### What every step keeps -/

/-- Every step keeps the peer table well formed: at most 24 entries, one for an address and none for the
station's own, each in the chain its address gives, STALE exactly from its limit on, gone before age 180,
its record in its ranges (R12 to R17). -/
def Obligations.EveryStepKeepsTheTableWellFormed : Prop :=
  ∀ s t : State, s.TableWf → step s = .next t → t.TableWf

/-- Every step keeps the law of the station states: nothing is queued that the station state forbids,
nothing at all outside CLAIM and ONLINE, and each timer of the station state runs in its own states only
(R1 to R10, R17, R22, R25, R105); and UNADDRESSED is left only for START, and only by RESET or
RESET_ASSERTED (R2, R184). -/
def Obligations.EveryStepKeepsTheStationLaw : Prop :=
  (∀ s t : State, s.StationWf → step s = .next t → t.StationWf) ∧
  ∀ (s t : State) (c : Instr), s.StationWf → s.member.station = .unaddressed →
    exec c s = .next t → t.member.station = .unaddressed ∨
      (t.member.station = .start ∧
        ((∃ role a x y, c = .reset role a x y) ∨ c = .resetAsserted))

/-- Every step keeps the rooms of the line controller: one periodic frame, three replies and one attempt
in flight at most, fewer than 16 lost attempts, two received frames at most, a wait period only on an
idle line that is not stuck, and part of an echo only of a frame in flight (R163, R165, R167 to R170);
the sequence stays below 256, START_END setting it to the address, which stays within 0..63 (R167, R184). -/
def Obligations.EveryStepKeepsTheQueueRooms : Prop :=
  ∀ s t : State, s.address ≤ 63 → s.LineWf → step s = .next t → t.address ≤ 63 ∧ t.LineWf

/-- Every step keeps the channels (a bad run of 5 and a good run of 3 at most, one of them 0, the filtered
value in its raw range), the setpoints in their ranges and 20 apart, D the figure of the wanted mode, a
wanted mode with a D of at least 1, and the address within 0..63 (R26 to R31, R34, R45, R49 to R51, R184,
R186). -/
def Obligations.EveryStepKeepsSensingSetpointsAndDemand : Prop :=
  (∀ s t : State, s.SetpointsWf → s.DemandWf → step s = .next t → t.SetpointsWf ∧ t.DemandWf) ∧
  (∀ s t : State, s.SensingWf → step s = .next t → t.SensingWf) ∧
  ∀ s t : State, s.address ≤ 63 → step s = .next t → t.address ≤ 63

/-- Every step keeps the damper drive coherent: positions within 0..1200, a valid count exactly in IDLE
and MOVING, IDLE at its target, MOVING away from it, a cause exactly in FAULT (R84 to R96). -/
def Obligations.EveryStepKeepsTheDriveCoherent : Prop :=
  ∀ s t : State, s.DriveWf → step s = .next t → t.DriveWf

/-- Every step keeps the plant coherent: the valve on in HEAT alone, the compressor call on exactly with
Kc above 0, no air in IDLE and LOCKOUT, each held flag, timer and phase in its own states, and IDLE
outside ONLINE (R104 to R155). -/
def Obligations.EveryStepKeepsThePlantCoherent : Prop :=
  ∀ s t : State, s.PlantWf → step s = .next t → t.PlantWf

/-- Every step from a state with a well-formed table, which every step keeps so (see
`EveryStepKeepsTheTableWellFormed`), keeps the reckonings and the occupation: a pending mark only with a reckoning in flight,
deferred aging and a waiting emptying only while a snapshot occupies the table, and the followed plant
the one the table gives, or none while an emptying waits (R11, R19, R23, R63, R107). -/
def Obligations.EveryStepKeepsTheReckoningsOrderly : Prop :=
  ∀ s t : State, s.TableWf → s.ReckoningWf → step s = .next t → t.ReckoningWf

/-- The state after reset is coherent in every respect the statements above keep. -/
def Obligations.ResetStateIsCoherent : Prop :=
  State.reset.Wf
end

