-- ==== Sys2Proof/Laws/State.lean ====
section
/-! SUPPORT. One lemma per field of the state for each update of one block: what the update gives the
field. -/

namespace Sys2Proof.Machine

section onMember
variable (s : State) (f : Membership → Membership)

@[simp] theorem State.onMember_held : (s.onMember f).held = s.held := rfl
@[simp] theorem State.onMember_now : (s.onMember f).now = s.now := rfl
@[simp] theorem State.onMember_role : (s.onMember f).role = s.role := rfl
@[simp] theorem State.onMember_address : (s.onMember f).address = s.address := rfl
@[simp] theorem State.onMember_startTimer : (s.onMember f).startTimer = s.startTimer := rfl
@[simp] theorem State.onMember_cfg : (s.onMember f).cfg = s.cfg := rfl
@[simp] theorem State.onMember_configFault : (s.onMember f).configFault = s.configFault := rfl
@[simp] theorem State.onMember_configClamped : (s.onMember f).configClamped = s.configClamped := rfl
@[simp] theorem State.onMember_member : (s.onMember f).member = f s.member := rfl
@[simp] theorem State.onMember_sensing : (s.onMember f).sensing = s.sensing := rfl
@[simp] theorem State.onMember_setpoints : (s.onMember f).setpoints = s.setpoints := rfl
@[simp] theorem State.onMember_demand : (s.onMember f).demand = s.demand := rfl
@[simp] theorem State.onMember_share : (s.onMember f).share = s.share := rfl
@[simp] theorem State.onMember_drive : (s.onMember f).drive = s.drive := rfl
@[simp] theorem State.onMember_plant : (s.onMember f).plant = s.plant := rfl
@[simp] theorem State.onMember_line : (s.onMember f).line = s.line := rfl
@[simp] theorem State.onMember_responder : (s.onMember f).responder = s.responder := rfl
@[simp] theorem State.onMember_pending : (s.onMember f).pending = s.pending := rfl

end onMember

section onSensing
variable (s : State) (f : Sensing → Sensing)

@[simp] theorem State.onSensing_held : (s.onSensing f).held = s.held := rfl
@[simp] theorem State.onSensing_now : (s.onSensing f).now = s.now := rfl
@[simp] theorem State.onSensing_role : (s.onSensing f).role = s.role := rfl
@[simp] theorem State.onSensing_address : (s.onSensing f).address = s.address := rfl
@[simp] theorem State.onSensing_startTimer : (s.onSensing f).startTimer = s.startTimer := rfl
@[simp] theorem State.onSensing_cfg : (s.onSensing f).cfg = s.cfg := rfl
@[simp] theorem State.onSensing_configFault : (s.onSensing f).configFault = s.configFault := rfl
@[simp] theorem State.onSensing_configClamped : (s.onSensing f).configClamped = s.configClamped := rfl
@[simp] theorem State.onSensing_member : (s.onSensing f).member = s.member := rfl
@[simp] theorem State.onSensing_sensing : (s.onSensing f).sensing = f s.sensing := rfl
@[simp] theorem State.onSensing_setpoints : (s.onSensing f).setpoints = s.setpoints := rfl
@[simp] theorem State.onSensing_demand : (s.onSensing f).demand = s.demand := rfl
@[simp] theorem State.onSensing_share : (s.onSensing f).share = s.share := rfl
@[simp] theorem State.onSensing_drive : (s.onSensing f).drive = s.drive := rfl
@[simp] theorem State.onSensing_plant : (s.onSensing f).plant = s.plant := rfl
@[simp] theorem State.onSensing_line : (s.onSensing f).line = s.line := rfl
@[simp] theorem State.onSensing_responder : (s.onSensing f).responder = s.responder := rfl
@[simp] theorem State.onSensing_pending : (s.onSensing f).pending = s.pending := rfl

end onSensing

section onDemand
variable (s : State) (f : Demand → Demand)

@[simp] theorem State.onDemand_held : (s.onDemand f).held = s.held := rfl
@[simp] theorem State.onDemand_now : (s.onDemand f).now = s.now := rfl
@[simp] theorem State.onDemand_role : (s.onDemand f).role = s.role := rfl
@[simp] theorem State.onDemand_address : (s.onDemand f).address = s.address := rfl
@[simp] theorem State.onDemand_startTimer : (s.onDemand f).startTimer = s.startTimer := rfl
@[simp] theorem State.onDemand_cfg : (s.onDemand f).cfg = s.cfg := rfl
@[simp] theorem State.onDemand_configFault : (s.onDemand f).configFault = s.configFault := rfl
@[simp] theorem State.onDemand_configClamped : (s.onDemand f).configClamped = s.configClamped := rfl
@[simp] theorem State.onDemand_member : (s.onDemand f).member = s.member := rfl
@[simp] theorem State.onDemand_sensing : (s.onDemand f).sensing = s.sensing := rfl
@[simp] theorem State.onDemand_setpoints : (s.onDemand f).setpoints = s.setpoints := rfl
@[simp] theorem State.onDemand_demand : (s.onDemand f).demand = f s.demand := rfl
@[simp] theorem State.onDemand_share : (s.onDemand f).share = s.share := rfl
@[simp] theorem State.onDemand_drive : (s.onDemand f).drive = s.drive := rfl
@[simp] theorem State.onDemand_plant : (s.onDemand f).plant = s.plant := rfl
@[simp] theorem State.onDemand_line : (s.onDemand f).line = s.line := rfl
@[simp] theorem State.onDemand_responder : (s.onDemand f).responder = s.responder := rfl
@[simp] theorem State.onDemand_pending : (s.onDemand f).pending = s.pending := rfl

end onDemand

section onShare
variable (s : State) (f : Share → Share)

@[simp] theorem State.onShare_held : (s.onShare f).held = s.held := rfl
@[simp] theorem State.onShare_now : (s.onShare f).now = s.now := rfl
@[simp] theorem State.onShare_role : (s.onShare f).role = s.role := rfl
@[simp] theorem State.onShare_address : (s.onShare f).address = s.address := rfl
@[simp] theorem State.onShare_startTimer : (s.onShare f).startTimer = s.startTimer := rfl
@[simp] theorem State.onShare_cfg : (s.onShare f).cfg = s.cfg := rfl
@[simp] theorem State.onShare_configFault : (s.onShare f).configFault = s.configFault := rfl
@[simp] theorem State.onShare_configClamped : (s.onShare f).configClamped = s.configClamped := rfl
@[simp] theorem State.onShare_member : (s.onShare f).member = s.member := rfl
@[simp] theorem State.onShare_sensing : (s.onShare f).sensing = s.sensing := rfl
@[simp] theorem State.onShare_setpoints : (s.onShare f).setpoints = s.setpoints := rfl
@[simp] theorem State.onShare_demand : (s.onShare f).demand = s.demand := rfl
@[simp] theorem State.onShare_share : (s.onShare f).share = f s.share := rfl
@[simp] theorem State.onShare_drive : (s.onShare f).drive = s.drive := rfl
@[simp] theorem State.onShare_plant : (s.onShare f).plant = s.plant := rfl
@[simp] theorem State.onShare_line : (s.onShare f).line = s.line := rfl
@[simp] theorem State.onShare_responder : (s.onShare f).responder = s.responder := rfl
@[simp] theorem State.onShare_pending : (s.onShare f).pending = s.pending := rfl

end onShare

section onDrive
variable (s : State) (f : Drive → Drive)

@[simp] theorem State.onDrive_held : (s.onDrive f).held = s.held := rfl
@[simp] theorem State.onDrive_now : (s.onDrive f).now = s.now := rfl
@[simp] theorem State.onDrive_role : (s.onDrive f).role = s.role := rfl
@[simp] theorem State.onDrive_address : (s.onDrive f).address = s.address := rfl
@[simp] theorem State.onDrive_startTimer : (s.onDrive f).startTimer = s.startTimer := rfl
@[simp] theorem State.onDrive_cfg : (s.onDrive f).cfg = s.cfg := rfl
@[simp] theorem State.onDrive_configFault : (s.onDrive f).configFault = s.configFault := rfl
@[simp] theorem State.onDrive_configClamped : (s.onDrive f).configClamped = s.configClamped := rfl
@[simp] theorem State.onDrive_member : (s.onDrive f).member = s.member := rfl
@[simp] theorem State.onDrive_sensing : (s.onDrive f).sensing = s.sensing := rfl
@[simp] theorem State.onDrive_setpoints : (s.onDrive f).setpoints = s.setpoints := rfl
@[simp] theorem State.onDrive_demand : (s.onDrive f).demand = s.demand := rfl
@[simp] theorem State.onDrive_share : (s.onDrive f).share = s.share := rfl
@[simp] theorem State.onDrive_drive : (s.onDrive f).drive = f s.drive := rfl
@[simp] theorem State.onDrive_plant : (s.onDrive f).plant = s.plant := rfl
@[simp] theorem State.onDrive_line : (s.onDrive f).line = s.line := rfl
@[simp] theorem State.onDrive_responder : (s.onDrive f).responder = s.responder := rfl
@[simp] theorem State.onDrive_pending : (s.onDrive f).pending = s.pending := rfl

end onDrive

section onPlant
variable (s : State) (f : Plant → Plant)

@[simp] theorem State.onPlant_held : (s.onPlant f).held = s.held := rfl
@[simp] theorem State.onPlant_now : (s.onPlant f).now = s.now := rfl
@[simp] theorem State.onPlant_role : (s.onPlant f).role = s.role := rfl
@[simp] theorem State.onPlant_address : (s.onPlant f).address = s.address := rfl
@[simp] theorem State.onPlant_startTimer : (s.onPlant f).startTimer = s.startTimer := rfl
@[simp] theorem State.onPlant_cfg : (s.onPlant f).cfg = s.cfg := rfl
@[simp] theorem State.onPlant_configFault : (s.onPlant f).configFault = s.configFault := rfl
@[simp] theorem State.onPlant_configClamped : (s.onPlant f).configClamped = s.configClamped := rfl
@[simp] theorem State.onPlant_member : (s.onPlant f).member = s.member := rfl
@[simp] theorem State.onPlant_sensing : (s.onPlant f).sensing = s.sensing := rfl
@[simp] theorem State.onPlant_setpoints : (s.onPlant f).setpoints = s.setpoints := rfl
@[simp] theorem State.onPlant_demand : (s.onPlant f).demand = s.demand := rfl
@[simp] theorem State.onPlant_share : (s.onPlant f).share = s.share := rfl
@[simp] theorem State.onPlant_drive : (s.onPlant f).drive = s.drive := rfl
@[simp] theorem State.onPlant_plant : (s.onPlant f).plant = f s.plant := rfl
@[simp] theorem State.onPlant_line : (s.onPlant f).line = s.line := rfl
@[simp] theorem State.onPlant_responder : (s.onPlant f).responder = s.responder := rfl
@[simp] theorem State.onPlant_pending : (s.onPlant f).pending = s.pending := rfl

end onPlant

section onLine
variable (s : State) (f : Line → Line)

@[simp] theorem State.onLine_held : (s.onLine f).held = s.held := rfl
@[simp] theorem State.onLine_now : (s.onLine f).now = s.now := rfl
@[simp] theorem State.onLine_role : (s.onLine f).role = s.role := rfl
@[simp] theorem State.onLine_address : (s.onLine f).address = s.address := rfl
@[simp] theorem State.onLine_startTimer : (s.onLine f).startTimer = s.startTimer := rfl
@[simp] theorem State.onLine_cfg : (s.onLine f).cfg = s.cfg := rfl
@[simp] theorem State.onLine_configFault : (s.onLine f).configFault = s.configFault := rfl
@[simp] theorem State.onLine_configClamped : (s.onLine f).configClamped = s.configClamped := rfl
@[simp] theorem State.onLine_member : (s.onLine f).member = s.member := rfl
@[simp] theorem State.onLine_sensing : (s.onLine f).sensing = s.sensing := rfl
@[simp] theorem State.onLine_setpoints : (s.onLine f).setpoints = s.setpoints := rfl
@[simp] theorem State.onLine_demand : (s.onLine f).demand = s.demand := rfl
@[simp] theorem State.onLine_share : (s.onLine f).share = s.share := rfl
@[simp] theorem State.onLine_drive : (s.onLine f).drive = s.drive := rfl
@[simp] theorem State.onLine_plant : (s.onLine f).plant = s.plant := rfl
@[simp] theorem State.onLine_line : (s.onLine f).line = f s.line := rfl
@[simp] theorem State.onLine_responder : (s.onLine f).responder = s.responder := rfl
@[simp] theorem State.onLine_pending : (s.onLine f).pending = s.pending := rfl

end onLine

section onResponder
variable (s : State) (f : Responder → Responder)

@[simp] theorem State.onResponder_held : (s.onResponder f).held = s.held := rfl
@[simp] theorem State.onResponder_now : (s.onResponder f).now = s.now := rfl
@[simp] theorem State.onResponder_role : (s.onResponder f).role = s.role := rfl
@[simp] theorem State.onResponder_address : (s.onResponder f).address = s.address := rfl
@[simp] theorem State.onResponder_startTimer : (s.onResponder f).startTimer = s.startTimer := rfl
@[simp] theorem State.onResponder_cfg : (s.onResponder f).cfg = s.cfg := rfl
@[simp] theorem State.onResponder_configFault : (s.onResponder f).configFault = s.configFault := rfl
@[simp] theorem State.onResponder_configClamped : (s.onResponder f).configClamped = s.configClamped := rfl
@[simp] theorem State.onResponder_member : (s.onResponder f).member = s.member := rfl
@[simp] theorem State.onResponder_sensing : (s.onResponder f).sensing = s.sensing := rfl
@[simp] theorem State.onResponder_setpoints : (s.onResponder f).setpoints = s.setpoints := rfl
@[simp] theorem State.onResponder_demand : (s.onResponder f).demand = s.demand := rfl
@[simp] theorem State.onResponder_share : (s.onResponder f).share = s.share := rfl
@[simp] theorem State.onResponder_drive : (s.onResponder f).drive = s.drive := rfl
@[simp] theorem State.onResponder_plant : (s.onResponder f).plant = s.plant := rfl
@[simp] theorem State.onResponder_line : (s.onResponder f).line = s.line := rfl
@[simp] theorem State.onResponder_responder : (s.onResponder f).responder = f s.responder := rfl
@[simp] theorem State.onResponder_pending : (s.onResponder f).pending = s.pending := rfl

end onResponder

section reach
variable (s : State) (m : Nat)

@[simp] theorem State.reach_held : (s.reach m).held = s.held := rfl
@[simp] theorem State.reach_now : (s.reach m).now = max s.now m := rfl
@[simp] theorem State.reach_role : (s.reach m).role = s.role := rfl
@[simp] theorem State.reach_address : (s.reach m).address = s.address := rfl
@[simp] theorem State.reach_startTimer : (s.reach m).startTimer = s.startTimer := rfl
@[simp] theorem State.reach_cfg : (s.reach m).cfg = s.cfg := rfl
@[simp] theorem State.reach_configFault : (s.reach m).configFault = s.configFault := rfl
@[simp] theorem State.reach_configClamped : (s.reach m).configClamped = s.configClamped := rfl
@[simp] theorem State.reach_member : (s.reach m).member = s.member := rfl
@[simp] theorem State.reach_sensing : (s.reach m).sensing = s.sensing := rfl
@[simp] theorem State.reach_setpoints : (s.reach m).setpoints = s.setpoints := rfl
@[simp] theorem State.reach_demand : (s.reach m).demand = s.demand := rfl
@[simp] theorem State.reach_share : (s.reach m).share = s.share := rfl
@[simp] theorem State.reach_drive : (s.reach m).drive = s.drive := rfl
@[simp] theorem State.reach_plant : (s.reach m).plant = s.plant := rfl
@[simp] theorem State.reach_line : (s.reach m).line = s.line := rfl
@[simp] theorem State.reach_responder : (s.reach m).responder = s.responder := rfl
@[simp] theorem State.reach_pending : (s.reach m).pending = s.pending := rfl

end reach

end Sys2Proof.Machine
end

