-- ==== Sys2Proof/Laws/Ops.lean ====
section
/-! SUPPORT. What the operations every block shares can do: taking an event, taking an expiry, the
conditional operation. -/

namespace Sys2Proof.Machine

/-- A held part takes no event (R184). -/
theorem State.take_held (s : State) (act : State → State) (h : s.held = true) : s.take act = s := by
  simp [State.take, h]

/-- A part that is not held takes the event. -/
theorem State.take_running (s : State) (act : State → State) (h : s.held = false) :
    s.take act = act s := by
  simp [State.take, h]

/-- All an event can do: nothing, in a held part, or its act. -/
theorem State.take_cases (s : State) (act : State → State) :
    (s.held = true ∧ s.take act = s) ∨ (s.held = false ∧ s.take act = act s) := by
  cases h : s.held
  · exact .inr ⟨rfl, s.take_running act h⟩
  · exact .inl ⟨rfl, s.take_held act h⟩

/-- The expiry of a running timer is taken at its due moment. -/
theorem State.takeExpiry_running (s : State) (d : Nat) (act : State → State) (h : s.held = false) :
    s.takeExpiry (.running d) act = act (s.reach d) := by
  simp [State.takeExpiry, State.take, h]

/-- A timer that does not run has no expiry. -/
theorem State.takeExpiry_idle (s : State) (t : Timer) (act : State → State)
    (h : t.isRunning = false) : s.takeExpiry t act = s := by
  cases t <;> simp_all [State.takeExpiry, State.take, Timer.isRunning]

/-- All an expiry can do: nothing, or its act at the moment the running timer is due. -/
theorem State.takeExpiry_cases (s : State) (t : Timer) (act : State → State) :
    s.takeExpiry t act = s ∨
      ∃ d, t = .running d ∧ s.held = false ∧ s.takeExpiry t act = act (s.reach d) := by
  cases t with
  | stopped => exact .inl (s.takeExpiry_idle _ act rfl)
  | expired => exact .inl (s.takeExpiry_idle _ act rfl)
  | running d =>
    rcases State.take_cases s fun s => act (s.reach d) with ⟨-, h⟩ | ⟨h', h⟩
    · exact .inl h
    · exact .inr ⟨d, rfl, h', h⟩

@[simp] theorem State.andIf_true (s : State) (act : State → State) : s.andIf true act = act s := rfl

@[simp] theorem State.andIf_false (s : State) (act : State → State) : s.andIf false act = s := rfl

/-- All a conditional operation can do: its act if the condition holds, nothing otherwise. -/
theorem State.andIf_cases (s : State) (c : Bool) (act : State → State) :
    (c = true ∧ s.andIf c act = act s) ∨ (c = false ∧ s.andIf c act = s) := by
  cases c <;> simp

/-- A property of states that an operation keeps is kept by the conditional operation. -/
theorem State.andIf_keeps {P : State → Prop} {act : State → State} (h : ∀ s, P s → P (act s))
    (s : State) (c : Bool) (hs : P s) : P (s.andIf c act) := by
  cases c
  · exact hs
  · exact h s hs

@[simp] theorem Timer.isRunning_running (d : Nat) : (Timer.running d).isRunning = true := rfl
@[simp] theorem Timer.isRunning_stopped : Timer.stopped.isRunning = false := rfl
@[simp] theorem Timer.isRunning_expired : Timer.expired.isRunning = false := rfl

/-- A timer runs exactly if it has a due moment. -/
theorem Timer.isRunning_iff (t : Timer) : t.isRunning = true ↔ ∃ d, t = .running d := by
  cases t <;> simp

end Sys2Proof.Machine
end

