-- ==== Sys2Proof/Laws/Exec.lean ====
section
/-! SUPPORT. Every command, and so every step, answers a next state. -/

namespace Sys2Proof.Machine

/-- Every command answers a next state. -/
theorem exec_answers (c : Instr) (s : State) : ∃ t, exec c s = .next t := by
  cases c <;> exact ⟨_, rfl⟩

/-- Every step answers a next state. -/
theorem step_answers (s : State) : ∃ t, step s = .next t := by
  unfold step
  split
  · exact ⟨_, rfl⟩
  · exact exec_answers _ _

/-- A step that answers t is a tick, or a command on the state with the queue's rest. -/
theorem step_cases {s t : State} (h : step s = .next t) :
    (s.pending = [] ∧ t = s.tick) ∨
      ∃ c rest, s.pending = c :: rest ∧ exec c { s with pending := rest } = .next t := by
  unfold step at h
  split at h
  · rename_i hp
    exact .inl ⟨hp, by cases h; rfl⟩
  · rename_i c rest hp
    exact .inr ⟨c, rest, hp, h⟩

end Sys2Proof.Machine
end

