-- ==== Sys2Proof/Laws/Frames.lean ====
section
/-! SUPPORT. For each shared operation, once, everything it can change: the state after it is the state
before it but for the parts named. Later proofs cite these and do not unfold the operations. -/

namespace Sys2Proof.Machine

/-! ### The forms of change -/

/-- The state after, changed in the transmit side of the line and the timing of the own announcement
alone. -/
def State.announces (s t : State) : Prop :=
  ∃ l a b, t = { s with
    line := l, demand := { s.demand with announcer := a }, plant := { s.plant with announcer := b } }

theorem State.announces_refl (s : State) : s.announces s := ⟨s.line, s.demand.announcer, s.plant.announcer, rfl⟩

theorem State.announces_trans {s t u : State} (h : s.announces t) (k : t.announces u) :
    s.announces u := by
  obtain ⟨l, a, b, rfl⟩ := h
  obtain ⟨l', a', b', rfl⟩ := k
  exact ⟨l', a', b', rfl⟩

/-- The state after, changed in what the service responder is told of its RESULTs alone. -/
def State.tellsResponder (s t : State) : Prop :=
  ∃ n r, t = { s with member := { s.member with restartsHanded := n }, responder := r }

theorem State.tellsResponder_refl (s : State) : s.tellsResponder s :=
  ⟨s.member.restartsHanded, s.responder, rfl⟩

theorem State.tellsResponder_trans {s t u : State} (h : s.tellsResponder t) (k : t.tellsResponder u) :
    s.tellsResponder u := by
  obtain ⟨n, r, rfl⟩ := h
  obtain ⟨n', r', rfl⟩ := k
  exact ⟨n', r', rfl⟩

/-! ### The transmit queue -/

/-- A wait period begins in the line controller. -/
theorem State.beginWait_frame (s : State) : ∃ l, s.beginWait = { s with line := l } := by
  unfold State.beginWait
  split
  · exact ⟨_, rfl⟩
  · exact ⟨s.line, rfl⟩

/-- A wait period changes neither queue, pair, latches nor counters. -/
theorem State.beginWait_line (s : State) :
    s.beginWait.line =
      { s.line with sequence := s.beginWait.line.sequence, wait := s.beginWait.line.wait } := by
  unfold State.beginWait
  split <;> rfl

@[simp] theorem State.beginWait_queue (s : State) : s.beginWait.line.queue = s.line.queue := by
  rw [State.beginWait_line]

/-- Placing an entry changes the line controller alone. -/
theorem State.placeEntry_frame (s : State) (e : TxEntry) :
    ∃ l, s.placeEntry e = { s with line := l } := by
  unfold State.placeEntry
  simp only
  split
  · obtain ⟨l, h⟩ := (s.onLine fun l => { l with queue := l.queue ++ [e] }).beginWait_frame
    exact ⟨l, h⟩
  · exact ⟨_, rfl⟩

/-- An entry is placed behind the others. -/
theorem State.placeEntry_queue (s : State) (e : TxEntry) :
    (s.placeEntry e).line.queue = s.line.queue ++ [e] := by
  unfold State.placeEntry
  simp only
  split <;> simp

theorem State.placePeriodic_frame (s : State) (k : TxKind) (dest : Nat) :
    ∃ l, s.placePeriodic k dest = { s with line := l } := by
  unfold State.placePeriodic
  split
  · exact ⟨s.line, rfl⟩
  · split
    · exact ⟨s.line, rfl⟩
    · exact s.placeEntry_frame _

theorem State.placeReply_frame (s : State) (k : TxKind) (dest : Nat) (body : List Byte)
    (use : ResultUse) : ∃ l, (s.placeReply k dest body use).1 = { s with line := l } := by
  unfold State.placeReply
  split
  · exact ⟨s.line, rfl⟩
  · split
    · exact ⟨_, rfl⟩
    · exact s.placeEntry_frame _

/-- A reply that is placed stands last in the queue. -/
theorem State.placeReply_placed (s : State) (k : TxKind) (dest : Nat) (body : List Byte)
    (use : ResultUse) (h : (s.placeReply k dest body use).2 = true) :
    (s.placeReply k dest body use).1.line.queue =
      s.line.queue ++ [{ kind := k, dest, body := some body, lost := 0, inFlight := false, use }] := by
  unfold State.placeReply at h ⊢
  split at h
  · simp at h
  · split at h
    · simp at h
    · rename_i h1 h2
      rw [if_neg h1, if_neg h2]
      exact s.placeEntry_queue _

theorem State.handRestarts_frame (s : State) : s.tellsResponder s.handRestarts := ⟨_, _, rfl⟩

theorem State.endDump_frame (s : State) : s.tellsResponder s.endDump := ⟨_, _, rfl⟩

theorem State.dumpResultLeft_frame (s : State) (last : Bool) (how : Departure) :
    s.tellsResponder (s.dumpResultLeft last how) := by
  unfold State.dumpResultLeft
  split
  · exact s.tellsResponder_refl
  · rename_i d _
    have kept : s.tellsResponder (s.onResponder fun r => { r with dump := some { d with nextDue := true } }) :=
      ⟨s.member.restartsHanded, _, rfl⟩
    dsimp only
    cases how <;> dsimp only <;> (try split) <;> first | exact kept | exact s.endDump_frame

theorem State.resultLeft_frame (s : State) (use : ResultUse) (how : Departure) :
    s.tellsResponder (s.resultLeft use how) := by
  unfold State.resultLeft
  split
  · exact s.tellsResponder_refl
  · exact ⟨_, _, rfl⟩
  · exact s.dumpResultLeft_frame _ _

/-! ### Announcements -/

theorem State.onAnnouncer_frame (s : State) (f : Announcer → Announcer) :
    s.announces (s.onAnnouncer f) := by
  unfold State.onAnnouncer
  split
  · exact ⟨s.line, _, s.plant.announcer, rfl⟩
  · exact ⟨s.line, s.demand.announcer, _, rfl⟩

theorem State.announces_of_line {s t : State} (h : ∃ l, t = { s with line := l }) :
    s.announces t := by
  obtain ⟨l, rfl⟩ := h
  exact ⟨l, s.demand.announcer, s.plant.announcer, rfl⟩

theorem State.placeAnnouncement_frame (s : State) : s.announces s.placeAnnouncement := by
  unfold State.placeAnnouncement
  split
  · exact s.onAnnouncer_frame _
  · exact State.announces_trans (State.announces_of_line (s.placePeriodic_frame _ _))
      (State.onAnnouncer_frame _ _)

theorem State.promptCause_frame (s : State) : s.announces s.promptCause := by
  unfold State.promptCause
  split
  · exact s.announces_refl
  · split
    · exact s.announces_refl
    · split
      · exact s.onAnnouncer_frame _
      · split
        · exact s.onAnnouncer_frame _
        · exact s.placeAnnouncement_frame

theorem State.andIf_announces (s : State) (c : Bool) (act : State → State)
    (h : s.announces (act s)) : s.announces (s.andIf c act) := by
  cases c
  · exact s.announces_refl
  · exact h

theorem State.promptFlags_frame (s old : State) : s.announces (s.promptFlags old) := by
  unfold State.promptFlags
  split
  · exact s.andIf_announces _ _ s.promptCause_frame
  · exact s.andIf_announces _ _ s.promptCause_frame

theorem State.periodExpired_frame (s : State) : s.announces s.periodExpired :=
  State.announces_trans s.placeAnnouncement_frame (State.onAnnouncer_frame _ _)

theorem State.spacingExpired_frame (s : State) : s.announces s.spacingExpired := by
  unfold State.spacingExpired
  exact State.announces_trans (s.onAnnouncer_frame _)
    (State.andIf_announces _ _ _ (State.placeAnnouncement_frame _))

theorem State.announcementSent_frame (s : State) (body : List Byte) :
    s.announces (s.announcementSent body) := s.onAnnouncer_frame _

/-! ### Reckonings -/

/-- A trigger changes the share unit's flight and mark alone. -/
theorem State.shareTrigger_frame (s : State) :
    ∃ f m, s.shareTrigger = { s with share := { s.share with flight := f, mark := m } } := by
  unfold State.shareTrigger
  split
  · exact ⟨_, s.share.mark, rfl⟩
  · exact ⟨s.share.flight, true, rfl⟩

/-- A trigger tells the share unit. -/
theorem State.shareTrigger_told (s : State) : toldShare s s.shareTrigger := by
  unfold State.shareTrigger toldShare
  cases h : s.share.flight <;> simp [State.beginShare, h]

/-- A trigger changes the plant sequencer's flight and mark alone. -/
theorem State.plantTrigger_frame (s : State) :
    ∃ f m, s.plantTrigger = { s with plant := { s.plant with flight := f, mark := m } } := by
  unfold State.plantTrigger
  split
  · exact ⟨s.plant.flight, s.plant.mark, rfl⟩
  · split
    · exact ⟨_, s.plant.mark, rfl⟩
    · exact ⟨s.plant.flight, true, rfl⟩

/-- A trigger tells the plant sequencer, in the plant role. -/
theorem State.plantTrigger_told (s : State) (h : s.role = .plant) : toldPlant s s.plantTrigger := by
  unfold State.plantTrigger toldPlant
  rw [h]
  cases k : s.plant.flight <;> simp [State.beginPlant, k]

/-- Triggers told in turn change the plant sequencer's flight and mark alone. -/
theorem State.plantTriggers_frame (changes : List Bool) (s : State) :
    ∃ f m, s.plantTriggers changes = { s with plant := { s.plant with flight := f, mark := m } } := by
  induction changes generalizing s with
  | nil => exact ⟨s.plant.flight, s.plant.mark, rfl⟩
  | cons c rest ih =>
    have step : ∃ f m, s.andIf c State.plantTrigger =
        { s with plant := { s.plant with flight := f, mark := m } } := by
      cases c
      · exact ⟨s.plant.flight, s.plant.mark, rfl⟩
      · exact s.plantTrigger_frame
    obtain ⟨f, m, h⟩ := step
    obtain ⟨g, n, k⟩ := ih (s.andIf c State.plantTrigger)
    refine ⟨g, n, ?_⟩
    show (s.andIf c State.plantTrigger).plantTriggers rest = _
    rw [k, h]

/-- With a reckoning in flight, triggers told in turn set its mark if one of the changes was made, and
leave the flight. -/
theorem State.plantTriggers_flying (changes : List Bool) (s : State) (h : s.role = .plant)
    (hf : s.plant.flight.isSome = true) : s.plantTriggers changes =
      s.onPlant fun p => { p with mark := p.mark || changes.any id } := by
  induction changes generalizing s with
  | nil => simp [State.plantTriggers, State.onPlant]
  | cons c rest ih =>
    show (s.andIf c State.plantTrigger).plantTriggers rest = _
    cases c with
    | false => rw [State.andIf_false, ih s h hf]; simp
    | true =>
      have k : s.plantTrigger = s.onPlant fun p => { p with mark := true } := by
        unfold State.plantTrigger
        rw [h]
        cases e : s.plant.flight with
        | none => simp [e] at hf
        | some f => rfl
      rw [State.andIf_true, k, ih _ (by simpa using h) (by simpa using hf)]
      simp [State.onPlant]

theorem State.membershipChange_frame (s : State) :
    ∃ f m g n, s.membershipChange = { s with
      share := { s.share with flight := f, mark := m }
      plant := { s.plant with flight := g, mark := n } } := by
  obtain ⟨f, m, h⟩ := s.shareTrigger_frame
  obtain ⟨g, n, k⟩ := s.shareTrigger.plantTrigger_frame
  refine ⟨f, m, g, n, ?_⟩
  rw [State.membershipChange, k, h]

/-! ### The peer table -/

/-- A change of the table changes the table, the followed plant, the two units' flights and marks, and
the own announcement alone. -/
theorem State.tableBecomes_frame (s : State) (table : List Entry) (changed : Bool) :
    ∃ o f m g n, ({ s with
      member := { s.member with table, followed := o }
      share := { s.share with flight := f, mark := m }
      plant := { s.plant with flight := g, mark := n } } : State).announces
        (s.tableBecomes table changed) := by
  unfold State.tableBecomes
  cases changed
  · exact ⟨_, s.share.flight, s.share.mark, s.plant.flight, s.plant.mark,
      State.promptFlags_frame _ _⟩
  · obtain ⟨f, m, g, n, h⟩ := (s.onMember fun x =>
      { x with table, followed := followedOf s.role table }).membershipChange_frame
    refine ⟨followedOf s.role table, f, m, g, n, ?_⟩
    simp only [State.andIf_true, if_true, h]
    exact State.promptFlags_frame _ _

/-! ### The line -/

/-- Becoming idle changes the line controller alone. -/
theorem State.lineIdle_frame (s : State) : ∃ l, s.lineIdle = { s with line := l } := by
  unfold State.lineIdle
  split
  · exact ⟨s.line, rfl⟩
  · obtain ⟨l, h⟩ := (s.onLine fun l => { l with idle := true, space := false }).beginWait_frame
    exact ⟨l, h⟩

/-- A line that is idle already, or on which the station sends, does not become idle again. -/
theorem State.lineIdle_of_idle (s : State) (h : s.line.sending.isSome = true ∨ s.line.idle = true) :
    s.lineIdle = s := by
  unfold State.lineIdle
  rw [if_pos (by simpa using h)]

theorem State.truncate_frame (s : State) : ∃ l, s.truncate = { s with line := l } := by
  unfold State.truncate
  split <;> exact ⟨_, rfl⟩

/-- A byte's beginning changes the line controller alone. -/
theorem State.byteBegins_frame (s : State) (n : Nat) : ∃ l, s.byteBegins n = { s with line := l } := by
  obtain ⟨l, h⟩ : ∃ l, s.andIf (decide (0 < n)) State.lineIdle = { s with line := l } := by
    rcases State.andIf_cases s (decide (0 < n)) State.lineIdle with ⟨-, k⟩ | ⟨-, k⟩
    · rw [k]; exact s.lineIdle_frame
    · exact ⟨s.line, k⟩
  obtain ⟨l', h'⟩ : ∃ l', ({ s with line := l } : State).andIf (decide (20 < n)) State.truncate =
      { s with line := l' } := by
    rcases State.andIf_cases ({ s with line := l } : State) (decide (20 < n)) State.truncate with
      ⟨-, k⟩ | ⟨-, k⟩
    · rw [k]; exact State.truncate_frame _
    · exact ⟨l, k⟩
  unfold State.byteBegins
  rw [h, h']
  exact ⟨_, rfl⟩

/-- The state after, changed in the line controller and the line-quiet timer alone. -/
def State.hears (s t : State) : Prop :=
  ∃ l q, t = { s with line := l, member := { s.member with lineQuiet := q } }

theorem State.hears_of_line {s t : State} (h : ∃ l, t = { s with line := l }) : s.hears t := by
  obtain ⟨l, rfl⟩ := h
  exact ⟨l, s.member.lineQuiet, rfl⟩

theorem State.hears_trans {s t u : State} (h : s.hears t) (k : t.hears u) : s.hears u := by
  obtain ⟨l, q, rfl⟩ := h
  obtain ⟨l', q', rfl⟩ := k
  exact ⟨l', q', rfl⟩

/-- Reception changes the line controller and the line-quiet timer alone. -/
theorem State.receive_frame (s : State) (f : Frame) : s.hears (s.receive f) := by
  unfold State.receive
  cases s.member.lineQuiet.isRunning <;> simp only [State.andIf_true, State.andIf_false] <;>
    split <;> (try split) <;> exact ⟨_, _, rfl⟩

theorem State.judgeAssembly_frame (s : State) (bs : List Byte) : s.hears (s.judgeAssembly bs) := by
  unfold State.judgeAssembly
  split
  · exact State.hears_of_line ⟨_, rfl⟩
  · split
    · simp only
      split
      · exact State.hears_trans (State.hears_of_line ⟨_, rfl⟩) (State.receive_frame _ _)
      · exact State.hears_of_line ⟨_, rfl⟩
    · exact State.hears_of_line ⟨_, rfl⟩

/-- What the assembler does with a byte changes the line controller and the line-quiet timer alone. -/
theorem State.assemble_frame (s : State) (b : LineByte) : s.hears (s.assemble b) := by
  unfold State.assemble
  split
  · split
    · exact State.hears_of_line ⟨_, rfl⟩
    · exact State.hears_of_line ⟨s.line, rfl⟩
  · exact s.judgeAssembly_frame _

/-- A byte cannot begin exactly with no idle time behind a line that stands in space (R158). -/
theorem Line.canBegin_eq_false (l : Line) (n : Nat) :
    l.canBegin n = false ↔ l.space = true ∧ n = 0 := by
  simp [Line.canBegin]

/-- On a line that does not stand in space any run can come (R158). -/
theorem Line.canHear_of_mark {l : Line} (h : l.space = false) (bytes : List LineByte) :
    l.canHear bytes = true := by
  cases bytes <;> simp [Line.canHear, Line.canBegin, h]

/-! ### What a reckoning copies of the own record (R23, R131) -/

@[simp] theorem State.plantSnapshot_own (s : State) : s.plantSnapshot.own = s.plantRecord := rfl
@[simp] theorem State.plantSnapshot_entries (s : State) : s.plantSnapshot.entries = s.member.table := rfl
@[simp] theorem State.shareSnapshot_own (s : State) : s.shareSnapshot.own = s.zoneRecord := rfl
@[simp] theorem State.shareSnapshot_entries (s : State) : s.shareSnapshot.entries = s.member.table := rfl
theorem State.shareSnapshot_source_plant {s : State} (h : s.role = .plant) :
    s.shareSnapshot.source = some s.plantRecord := by
  simp [State.shareSnapshot, h]

/-! ### The damper drive -/

/-- The state after, changed in the drive alone. -/
def State.drives (s t : State) : Prop := ∃ d, t = { s with drive := d }

theorem State.drives_refl (s : State) : s.drives s := ⟨s.drive, rfl⟩

theorem State.drives_trans {s t u : State} (h : s.drives t) (k : t.drives u) : s.drives u := by
  obtain ⟨d, rfl⟩ := h
  obtain ⟨d', rfl⟩ := k
  exact ⟨d', rfl⟩

theorem State.onDrive_frame (s : State) (f : Drive → Drive) : s.drives (s.onDrive f) := ⟨_, rfl⟩

theorem State.enterIdle_frame (s : State) : s.drives s.enterIdle := ⟨_, rfl⟩

theorem State.enterMoving_frame (s : State) : s.drives s.enterMoving := ⟨_, rfl⟩

theorem State.enterFault_frame (s : State) (c : FaultCause) : s.drives (s.enterFault c) := ⟨_, rfl⟩

theorem State.homingFound_frame (s : State) : s.drives s.homingFound := by
  unfold State.homingFound
  simp only
  split <;> exact ⟨_, rfl⟩

theorem State.enterHoming_frame (s : State) (retry : Bool) : s.drives (s.enterHoming retry) := by
  unfold State.enterHoming
  simp only
  split
  · exact State.drives_trans ⟨_, rfl⟩ (State.homingFound_frame _)
  · exact ⟨_, rfl⟩

theorem State.completeMove_frame (s : State) : s.drives s.completeMove := by
  unfold State.completeMove
  simp only
  split
  · exact State.drives_trans ⟨_, rfl⟩ (State.enterHoming_frame _ _)
  · exact ⟨_, rfl⟩

theorem State.takeTarget_frame (s : State) (t : Nat) : s.drives (s.takeTarget t) := by
  unfold State.takeTarget
  simp only
  split
  · exact ⟨_, rfl⟩
  · exact ⟨_, rfl⟩
  · exact ⟨_, rfl⟩
  · split
    · exact ⟨_, rfl⟩
    · split
      · exact State.drives_trans ⟨_, rfl⟩ (State.enterHoming_frame _ _)
      · exact ⟨_, rfl⟩
  · split
    · exact State.drives_trans ⟨_, rfl⟩ (State.completeMove_frame _)
    · exact ⟨_, rfl⟩

theorem State.leaveFault_frame (s : State) : s.drives s.leaveFault :=
  State.drives_trans ⟨_, rfl⟩ (State.enterHoming_frame _ _)

theorem State.homeRequest_frame (s : State) : s.drives s.homeRequest := by
  unfold State.homeRequest
  split
  · exact s.drives_refl
  · exact s.drives_refl
  · exact s.enterHoming_frame _
  · exact State.drives_trans ⟨_, rfl⟩ (State.enterHoming_frame _ _)
  · exact s.leaveFault_frame

theorem State.endHold_frame (s : State) : s.drives s.endHold :=
  State.drives_trans ⟨_, rfl⟩ (State.takeTarget_frame _ _)

theorem State.handTarget_frame (s : State) (t : Nat) : s.drives (s.handTarget t) := by
  unfold State.handTarget
  split
  · exact s.drives_refl
  · exact s.takeTarget_frame t

theorem State.homingStep_frame (s : State) (stall : Bool) : s.drives (s.homingStep stall) := by
  unfold State.homingStep
  simp only
  split
  · split <;> exact ⟨_, rfl⟩
  · split
    · exact State.drives_trans ⟨_, rfl⟩ (State.homingFound_frame _)
    · split <;> exact ⟨_, rfl⟩

theorem State.moveStalled_frame (s : State) : s.drives s.moveStalled := by
  unfold State.moveStalled
  split
  · exact State.drives_trans ⟨_, rfl⟩ (State.enterHoming_frame _ _)
  · exact ⟨_, rfl⟩

theorem State.moveStep_frame (s : State) (p : Nat) (stall : Bool) :
    s.drives (s.moveStep p stall) := by
  have judged : ∀ u : State, u.drives (if 24 ≤ u.drive.stuckSteps then u.enterFault .endStopStuck
      else if u.drive.count == some u.drive.target then u.completeMove else u) := by
    intro u
    split
    · exact u.enterFault_frame _
    · split
      · exact u.completeMove_frame
      · exact u.drives_refl
  unfold State.moveStep
  cases stall
  · exact State.drives_trans ⟨_, rfl⟩ (judged _)
  · exact State.drives_trans ⟨_, rfl⟩ (State.moveStalled_frame _)

theorem State.startHold_frame (s : State) (t : Nat) : s.drives (s.startHold t) :=
  State.drives_trans ⟨_, rfl⟩ (State.takeTarget_frame _ _)

theorem State.andIf_drives (s : State) (c : Bool) (act : State → State)
    (h : ∀ u : State, u.drives (act u)) : s.drives (s.andIf c act) := by
  cases c
  · exact s.drives_refl
  · exact h s

theorem State.clearDrive_frame (s : State) : s.drives s.clearDrive :=
  State.drives_trans
    (State.drives_trans (s.onDrive_frame _) (State.andIf_drives _ _ _ State.endHold_frame))
    (State.andIf_drives _ _ _ State.leaveFault_frame)

/-! ### Sensing -/

/-- An operation on a contact changes sensing alone. -/
theorem State.onContact_frame (s : State) (c : Contact) (f : ContactInput → ContactInput) :
    ∃ g, s.onContact c f = { s with sensing := g } := by
  cases c <;> exact ⟨_, rfl⟩

/-- A contact's level change changes sensing alone. -/
theorem State.levelChange_frame (s : State) (c : Contact) (level : Level) :
    ∃ g, s.levelChange c level = { s with sensing := g } := by
  unfold State.levelChange
  split
  · exact ⟨s.sensing, rfl⟩
  · simp only
    obtain ⟨g, h⟩ := s.onContact_frame c fun x => { x with level }
    rcases State.andIf_cases (s.onContact c fun x => { x with level })
      (s.member.station != .start && s.contactInUse c) fun t => t.debounceAgain c with ⟨-, k⟩ | ⟨-, k⟩
    · rw [k, h]
      exact State.onContact_frame _ c _
    · rw [k]; exact ⟨g, h⟩

/-- Forming the demands changes the three demand figures alone. -/
theorem State.formDemands_frame (s : State) :
    ∃ a b c, s.formDemands =
      { s with demand := { s.demand with dHeat := a, dCool := b, dDry := c } } := ⟨_, _, _, rfl⟩

end Sys2Proof.Machine
end

