-- ==== Sys2Proof/WellFormed.lean ====
section
/-! DEFINITION. When a command's operands are ones the outside can bring. `exec` gives every
command a meaning; these checks say which operands are not of the part's world. -/

namespace Sys2Proof

/-- The converter delivers a temperature over −400..850 and a humidity over 0..1000 (02, section 2.1;
00, Units): no value lies outside the two ranges together. -/
def Conversion.wellFormed : Conversion → Bool
  | .value v => decide (-400 ≤ v) && decide (v ≤ 1000)
  | .openCircuit => true
  | .shortCircuit => true

/-- A well-formed command: the image has at most 64 bytes (R192), a conversion lies in the
converter's range, a frame is completed by at least one byte, an oversized length is found at a byte,
an attempt starts after at least the gap of class 0 (R167), and at most 38 bytes of a 39-byte frame
match before a wrong one (R159). -/
def Instr.wellFormed : Instr → Bool
  | .startEnd image => decide (image.length ≤ 64)
  | .sampleTimerExpiry a b => a.wellFormed && b.wellFormed
  | .receivedFrame bytes => !bytes.isEmpty
  | .length bytes => !bytes.isEmpty
  | .attemptStart idleBits => decide (30 ≤ idleBits)
  | .lostAttempt matched _ _ => decide (matched ≤ 38)
  | .reset _ _ _ _ | .joinWindowExpiry | .rollCallWaitExpiry | .duplicateHoldExpiry | .agingExpiry
  | .lineQuietExpiry | .announce | .plantStatus | .rollCall | .present | .setpoint
  | .setpointReply | .result | .unknownKindFrame | .tableWriteApplied | .snapshotEnd _ | .peer
  | .status | .share | .plant | .dump | .clear _ | .rehome _ | .hold _ | .restart
  | .restartCarriedOut | .dumpNextResult | .contactLevelChange _ _ | .debounceExpiry _
  | .announcePeriodExpiry | .spacingExpiry | .shareReckoningEnd _ | .alignmentEnd _
  | .homingStep _ _ | .moveStep _ _ | .settleEnd | .holdTimerExpiry _ | .plantTimerExpiry
  | .plantReckoningEnd | .minOnExpiry | .minOffExpiry | .dwellExpiry | .changeoverPauseExpiry
  | .frostTimerExpiry | .tripTimerExpiry | .defrostOverlongExpiry | .statusPeriodExpiry
  | .statusSpacingExpiry | .framingError _ _ | .truncated _ | .transmissionComplete | .stuck
  | .stuckEnd | .resetAsserted => true

end Sys2Proof
end

