-- ==== Sys2Proof/Tests/Slice0.lean ====
section
/-! SUPPORT. Tests of single commands on small states, the manual's worked examples, a term each check of
WellFormed refuses, and for each statement a state and operands that meet its hypotheses. -/

namespace Sys2Proof.Tests

open Sys2Proof.Machine

/-! ### Helpers -/

/-- The state a command answers. -/
def after (c : Instr) (s : State) : State :=
  match exec c s with
  | .next t => t
  | .fault _ => s
  | .refused _ => s

/-- A station of address 5 at 10 s of its clock in a station state, with that state's timers. -/
def station (role : Role) (at' : Station) : State :=
  let s := State.released role 5 .closed .closed
  let run := fun (b : Bool) (d : Nat) => if b then Timer.running d else Timer.stopped
  { s with
    now := 10000
    startTimer := run (at' == .start) 10150
    member :=
      { s.member with
        station := at', joinWindow := run (at' == .listen) 12000
        rollCallWait := run (at' == .claim) 10250
        duplicateHold := run (at' == .duplicate) 130000
        lineQuiet := run (at' == .online) 70000
        aging := run (at' != .start) 11000 }
    sensing := { s.sensing with sample := run (at' != .start) 12000 }
    plant := { s.plant with timer := run (role == .plant && at' != .start) 15000 } }

def zone : State := station .zone .online
def plant : State := station .plant .online

def frame (dest src kind : Nat) (body : List Byte) : Frame :=
  { dest := byte dest, src := byte src, kind := byte kind, body }

/-- The state with a frame as the older one of the receive pair. -/
def hearing (s : State) (f : Frame) : State := { s with line := { s.line with pair := [f] } }

/-- The body of an ANNOUNCE: wanted mode, D, w, Qd, R, relief available, 20.0 °C, 50 %RH. -/
def announceBody (wanted d w qd r : Nat) : List Byte :=
  [byte wanted, byte d, byte w, byte qd, byte r, 1, 200, 0, 50, 0, 0]

def announceOf (src d : Nat) : Frame := frame 0 src 0x20 (announceBody 2 d 1 20 0)
def statusOf (src mode qb : Nat) : Frame :=
  frame 0 src 0x21 [byte mode, 0, byte qb, 0, 48, 0, 80, 0, 50, 0, 0]

def zoneEntry (address d : Nat) : Entry :=
  newEntry address (.zone (ZoneRecord.ofBody (announceBody 2 d 1 20 0)))
def plantEntry (address qb : Nat) : Entry :=
  newEntry address (.plant (PlantRecord.ofBody (statusOf address 2 qb).body))
def stale (e : Entry) (age : Nat) : Entry := { e with standing := .stale, age }

def withTable (s : State) (table : List Entry) : State :=
  { s with member := { s.member with table, followed := followedOf s.role table } }

/-- 24 entries, of the addresses 8, 16, …, 24 in chain 0 first. -/
def fullTable : List Entry :=
  ([8, 16, 24, 1, 9, 17, 2, 10, 18, 3, 11, 19, 4, 12, 20, 13, 21, 29, 6, 14, 22, 7, 15, 23] :
    List Nat).map fun a => zoneEntry a 10

/-- A run of line bytes, the first after 30 bit-times of idle. -/
def run (bytes : List Byte) : List LineByte :=
  bytes.zipIdx.map fun (b, i) => { idleBits := if i == 0 then 30 else 0, value := b }

def reply (kind : TxKind) (use : ResultUse := .plain) : TxEntry :=
  { kind, dest := 60, body := some [16, 0, 0], lost := 0, inFlight := false, use }
def flying (e : TxEntry) : TxEntry := { e with inFlight := true }
def queued (s : State) (q : List TxEntry) : State := { s with line := { s.line with queue := q } }

def query (body : List Byte) (src : Nat := 60) : Frame := frame 5 src 0x40 body
def order (body : List Byte) (src : Nat := 60) : Frame := frame 5 src 0x41 body

def driven (s : State) (f : Drive → Drive) : State := { s with drive := f s.drive }
/-- A zone whose drive moves from a count to a target. -/
def moving (count target : Nat) : State :=
  driven zone fun d =>
    { d with
      state := .moving, count := some count, target := target, alignment := .stopped, aligned := false
      step := .running 10005, phasesOn := true }
def resting (count : Nat) : State :=
  driven zone fun d =>
    { d with
      state := .idle, count := some count, target := count, alignment := .stopped, aligned := false
      settle := .running 10200 }
def homing (steps : Nat) : State :=
  driven zone fun d =>
    { d with
      state := .homing, alignment := .stopped, step := .running 10005, homingSteps := steps
      aligned := steps == 0 }
def faulted : State :=
  driven zone fun d =>
    { d with
      state := .fault, cause := .stall, alignment := .stopped, aligned := false, phasesOn := false
      stallCount := 2 }

def dumpAt (chain position remaining : Nat) (abort : Bool) : Dump :=
  { requester := 60, chain, position, remaining, abort, nextDue := true }
def dumping (s : State) (d : Dump) : State := { s with responder := { s.responder with dump := some d } }

/-- The state after its own share trigger, its reckoning computing. -/
def shareComputing (s : State) : State :=
  let t := s.beginShare
  { t with share :=
    { t.share with flight := t.share.flight.map fun f => { f with phase := .computing, due := 10002 } } }
def plantComputing (s : State) : State :=
  let t := s.beginPlant
  { t with plant :=
    { t.plant with flight := t.plant.flight.map fun f => { f with phase := .computing, due := 10002 } } }

/-- The plant in a mode, with the timers of a running state. -/
def running (m : PlantMode) (minOn dwell : Timer) : State :=
  { plant with plant :=
    { plant.plant with arb :=
      { plant.plant.arb with mode := m, minOn, dwell, minOff := .stopped, valve := m == .heat } } }

/-! ### WellFormed: a term that each check refuses -/

theorem test_wf_image_too_long : (Instr.startEnd (List.replicate 65 0)).wellFormed = false := by decide
theorem test_wf_conversion_low :
    (Instr.sampleTimerExpiry (.value (-401)) (.value 500)).wellFormed = false := by decide
theorem test_wf_conversion_high :
    (Instr.sampleTimerExpiry .openCircuit (.value 1001)).wellFormed = false := by decide
theorem test_wf_received_empty : (Instr.receivedFrame []).wellFormed = false := by decide
theorem test_wf_length_empty : (Instr.length []).wellFormed = false := by decide
theorem test_wf_attempt_early : (Instr.attemptStart 29).wellFormed = false := by decide
theorem test_wf_lost_too_far : (Instr.lostAttempt 39 (some 0) false).wellFormed = false := by decide
theorem test_wf_accepts :
    (Instr.startEnd (List.replicate 64 0)).wellFormed = true ∧
    (Instr.sampleTimerExpiry (.value (-400)) (.value 1000)).wellFormed = true ∧
    (Instr.attemptStart 30).wellFormed = true ∧ (Instr.lostAttempt 38 none true).wellFormed = true := by
  decide

/-! ### The worked examples -/

/-- 04, one reckoning in zone A's view: the table of every zone there. -/
def installed : Config.Product :=
  { Config.defaults with table := [0, 180, 330, 460, 580, 690, 800, 920, 1200], qbp := 20 }
def counted (wanted : WantedMode) (demand qd relief : Nat) : Counted :=
  { wanted, demand, weight := 1, qd, relief, reliefAvailable := true }
def roomA := counted .cool 70 20 0
def roomB := counted .cool 20 16 0
def roomC := counted .cool 100 24 0
def hallD := counted .none 0 16 12
def passageE := counted .none 0 20 10

theorem test_share_claims :
    [roomA, roomB, roomC, hallD].map (claim .cool) = [14, 5, 24, 0] := by decide
theorem test_share_targets :
    [roomA, roomB, roomC, hallD].map (termsOf .cool 48 [roomA, roomB, roomC, hallD]).target =
      [14, 5, 24, 5] := by decide
theorem test_share_positions :
    [700, 312, 1000, 600, 150, 250].map (lookup installed.table) = [756, 394, 1200, 668, 210, 330] := by
  decide
/-- 04, scaling: E with Qd 40 and D 100, F with Qd 12 and D 75. -/
theorem test_share_scaled :
    [roomA, roomB, roomC, counted .cool 100 40 0, counted .cool 75 12 0, hallD].map
      (termsOf .cool 80 [roomA, roomB, roomC, counted .cool 100 40 0, counted .cool 75 12 0,
        hallD]).target = [12, 4, 20, 34, 7, 0] := by decide
/-- 04, two views that differ: D and E share the pool in the plant's view, and U is 1. -/
theorem test_share_two_views :
    [hallD, passageE].map (termsOf .cool 48 [roomA, roomB, roomC, hallD, passageE]).relief = [2, 2] ∧
    [hallD].map (termsOf .cool 48 [roomA, roomB, roomC, hallD]).relief = [5] ∧
    bypassTarget installed 1 = (some 50, 72) := by decide
/-- 04, 4.7: U 3 gives 210, U 5 gives 330, U 0 closes. -/
theorem test_bypass_positions :
    [3, 5, 0].map (fun u => (bypassTarget installed u).2) = [210, 330, 0] := by decide
/-- 09, working the check. -/
theorem test_check_sums :
    checkSums [0, 21, 130, 2, 200, 90] = (188, 101) ∧ (checkSums [0, 21, 130, 2, 90, 200]).2 = 246 := by
  decide
/-- 02, setpoint frames, the four frames in turn and the first with the panel lock on. -/
def setpointsOf (heat cool humidity : Int) : Setpoints :=
  { figures := { heat, cool, humidity }, home := { heat := 200, cool := 240, humidity := 55 } }
theorem test_setpoint_frame1 :
    (setpointsOf 200 240 55).work Config.defaults (some 262) none (some 80) =
      ({ heat := 262, cool := 282, humidity := 70 },
        { heatClamped := false, coolClamped := false, humidityClamped := true, heatPushed := false,
          coolPushed := true }) := by decide
theorem test_setpoint_frames_2_to_4 :
    ((setpointsOf 262 282 70).work Config.defaults none (some 150) none).1 =
      { heat := 130, cool := 150, humidity := 70 } ∧
    ((setpointsOf 130 150 70).work Config.defaults (some 90) (some 105) none).1 =
      { heat := 100, cool := 120, humidity := 70 } ∧
    ((setpointsOf 100 120 70).work Config.defaults (some 250) (some 255) (some 60)).1 =
      { heat := 250, cool := 270, humidity := 60 } := by decide
theorem test_setpoint_locked :
    ((setpointsOf 200 240 55).work { Config.defaults with panelLock := true } (some 262) none
      (some 80)).1 = { heat := 210, cool := 240, humidity := 65 } := by decide
/-- 02, a room temperature channel through a fault, expiries 2, 9 and 14. -/
theorem test_channel_filters :
    ({ filtered := some 231, fault := false, bad := 0, good := 1 } : Channel).good1 239 =
      { filtered := some 233, fault := false, bad := 0, good := 2 } := by decide
theorem test_channel_faults :
    ({ filtered := some 234, fault := false, bad := 4, good := 0 } : Channel).bad1 =
      { filtered := some 234, fault := true, bad := 5, good := 0 } := by decide
theorem test_channel_reseeds :
    ({ filtered := some 234, fault := true, bad := 0, good := 2 } : Channel).good1 249 =
      { filtered := some 249, fault := false, bad := 0, good := 3 } ∧
    (({ filtered := some 249, fault := false, bad := 0, good := 3 } : Channel).good1 245).filtered =
      some 248 := by decide

/-! ### The part: RESET, RESET_ASSERTED, START_END -/

theorem test_reset : (after (.reset .plant 7 .opened .closed) zone).member.station = .start ∧
    (after (.reset .plant 7 .opened .closed) zone).address = 7 := by decide
theorem test_reset_asserted : (after .resetAsserted zone).held = true ∧
    (after .resetAsserted zone).drive.phasesOn = false := by decide
theorem test_start_end_listens :
    (after (.startEnd []) (station .zone .start)).member.station = .listen ∧
    (after (.startEnd []) (station .zone .start)).configFault = true := by decide
theorem test_start_end_unaddressed :
    (after (.startEnd []) State.reset).member.station = .unaddressed := by decide
theorem test_step_runs_front :
    step { State.reset with pending := [.startEnd [], .settleEnd] } =
      exec (.startEnd []) { State.reset with pending := [.settleEnd] } := rfl
theorem test_step_idle : step State.reset = .next { State.reset with now := 1 } := rfl
theorem test_held_part_idles :
    after .plantTimerExpiry (after .resetAsserted plant) = after .resetAsserted plant := by decide

/-- An image of the given role-independent table, every other field 0, with its check bytes. -/
def sealed (body : List Byte) : List Byte :=
  body ++ [byte (checkSums body).1, byte (checkSums body).2]
def imageOf (table : List Nat) : List Byte :=
  sealed ((0xA5 : Byte) :: (table.flatMap bytes2 ++ List.replicate 43 0))
/-- The plant image of chapter 11's worked example, the fields it does not give being in range. -/
def workedImage : List Byte :=
  sealed ((0xA5 : Byte) :: ([0, 180, 330, 460, 580, 690, 800, 920, 1200, 1200].flatMap bytes2 ++
    [0xFF] ++ List.replicate 16 0 ++ [450, 40, 90, 2, 32].flatMap bytes2 ++ [6, 25] ++
    [100, 200].flatMap bytes2 ++ List.replicate 8 0))
def decreasing : List Byte := imageOf [0, 180, 330, 460, 580, 560, 800, 920, 1200]
def rising : List Byte := imageOf [0, 180, 330, 460, 580, 690, 800, 920, 2000]

/-- R187's own example. -/
theorem test_decreasing_table :
    (load .zone decreasing).product.table = Config.straightLine ∧
    (load .zone decreasing).clamped = true ∧ (load .zone decreasing).fault = false := by decide
theorem test_worked_image :
    let c := (load .plant workedImage).product
    (c.qmax, c.qminHeat, c.qminCool, c.qminDry, c.qpurge, c.dwell) = (400, 40, 90, 4, 32, 300) ∧
    c.table = [0, 180, 330, 460, 580, 690, 800, 920, 1200] ∧
    (load .plant workedImage).clamped = true ∧ (load .plant workedImage).fault = false := by decide
theorem test_table_held :
    (load .zone rising).product.table = [0, 180, 330, 460, 580, 690, 800, 920, 1200] := by decide

/-! ### Membership -/

theorem test_join_window_claims :
    (after .joinWindowExpiry (station .zone .listen)).member.station = .claim ∧
    (after .joinWindowExpiry (station .zone .listen)).line.queue.map TxEntry.kind = [.rollCall] := by
  decide
theorem test_roll_call_wait_online :
    (after .rollCallWaitExpiry (station .zone .claim)).member.station = .online ∧
    (after .rollCallWaitExpiry (station .zone .claim)).line.queue.map TxEntry.kind = [.announce] := by
  decide
theorem test_duplicate_hold_listens :
    (after .duplicateHoldExpiry (station .zone .duplicate)).member.joinWindow = .running 135000 := by
  decide
theorem test_aging_removes :
    (after .agingExpiry (withTable zone [stale (zoneEntry 8 10) 179, zoneEntry 16 10])).member.table.map
      Entry.age = [1] := by decide
theorem test_aging_deferred :
    (after .agingExpiry (withTable zone [zoneEntry 8 10]).beginShare).member.deferred = 1 := by decide
theorem test_line_quiet : (after .lineQuietExpiry zone).member.lineQuietLatch = true := by decide
theorem test_announce_tabled :
    (after .announce (hearing (withTable zone [zoneEntry 8 10, zoneEntry 9 10])
      (announceOf 16 40))).member.table.map Entry.address = [8, 16, 9] := by decide
theorem test_plant_status_followed :
    (after .plantStatus (hearing zone (statusOf 9 2 48))).member.followed = some 9 := by decide
theorem test_table_write_applied :
    (after .tableWriteApplied { zone with line := { zone.line with current := some (announceOf 16 40) }
      }).member.table.map Entry.address = [16] := by decide
theorem test_snapshot_end :
    (after (.snapshotEnd .share) (withTable zone [zoneEntry 8 10]).beginShare).share.flight.map
      ShareFlight.due = some 10003 := by decide
theorem test_roll_call_answered :
    (after .rollCall (hearing zone (frame 5 5 0x10 [0]))).line.queue.map TxEntry.kind = [.present] := by
  decide
theorem test_present_is_evidence :
    (after .present (hearing (station .zone .claim) (frame 5 5 0x11 [0]))).member.station =
      .duplicate := by decide
theorem test_restart_carried_out :
    (after .restartCarriedOut { zone with member := { zone.member with restartsHanded := 1 }
      }).member.station = .listen := by decide

/-! ### Frames -/

theorem test_setpoint_stored :
    (after .setpoint (hearing zone (frame 5 50 0x30 [6, 1, 0, 0x80, 80, 0]))).setpoints.figures =
      { heat := 262, cool := 282, humidity := 70 } := by decide
theorem test_setpoint_reply_discarded :
    after .setpointReply (hearing zone (frame 5 9 0x31 [3])) = zone := by decide
theorem test_result_discarded : after .result (hearing zone (frame 5 9 0x42 [1, 0, 0])) = zone := by decide
theorem test_unknown_kind :
    (after .unknownKindFrame (hearing zone (frame 0 9 0x55 []))).line.latches.unknown = true := by decide

/-! ### Service -/

def answerOf (s : State) : List (List Nat) :=
  s.line.queue.map fun e => (e.body.getD []).map BitVec.toNat

theorem test_peer_chain_empty : answerOf (after .peer (hearing zone (query [1, 13]))) =
    [[1, 0, 0, 0, 5, 255]] := by decide
theorem test_peer_found : answerOf (after .peer (hearing (withTable zone [zoneEntry 13 40])
    (query [1, 13]))) = [[1, 0, 0, 2, 5, 0, 13, 0, 0, 0, 1, 0, 2, 40, 1, 20, 0, 1, 200, 0, 50, 0, 0]] := by
  decide
theorem test_status_drive : answerOf (after .status (hearing (resting 756) (query [2, 2, 0]))) =
    [[2, 0, 0, 2, 0, 0, 0, 2, 244, 2, 244, 2, 0, 255, 255, 0, 0, 0, 0]] := by decide
/-- RHt has two bytes, so SPh_eff stands at offset 13 of the answer (R191). -/
theorem test_status_targets : ((answerOf (after .status (hearing zone (query [2, 3, 0])))).map
    fun b => (b.drop 7).take 10) = [[200, 0, 240, 0, 55, 0, 200, 0, 240, 0]] := by decide
theorem test_share_answer : ((answerOf (after .share (hearing zone (query [3])))).map
    (List.take 6)) = [[3, 0, 0, 4, 0, 0]] := by decide
theorem test_plant_role : answerOf (after .plant (hearing zone (query [4, 0]))) = [[4, 3, 0]] := by decide
theorem test_plant_answer : (answerOf (after .plant (hearing plant (query [4, 0])))).map
    List.length = [31] := by decide
theorem test_dump_begins : ((answerOf (after .dump (hearing (withTable zone [zoneEntry 13 40])
    (query [5, 1, 24])))).map (List.take 7)) = [[5, 0, 0, 2, 5, 0, 13]] := by decide
theorem test_dump_next : answerOf (after .dumpNextResult (dumping zone (dumpAt 5 1 23 false))) =
    [[5, 0, 1, 3, 255, 255]] := by decide
theorem test_clear_fault : (after (.clear false) (hearing faulted (order [16]))).drive.state = .homing := by
  decide
theorem test_rehome : (after (.rehome false) (hearing (resting 756) (order [17]))).drive.state =
    .homing := by decide
theorem test_hold : (after (.hold false) (hearing (resting 756) (order [18, 44, 1]))).drive.target =
    300 := by decide
theorem test_hold_range : answerOf (after (.hold false) (hearing zone (order [18, 177, 4]))) =
    [[18, 2, 0]] := by decide
theorem test_restart_waits : (after .restart (hearing zone (order [19]))).responder.waiting =
    [{ done := true, dumpEnd := false }] := by decide

/-! ### Sensing and announcements -/

theorem test_sample_demands :
    (after (.sampleTimerExpiry (.value 180) (.value 500)) zone).demand.wanted = .heat ∧
    (after (.sampleTimerExpiry (.value 180) (.value 500)) zone).demand.dHeat = 100 := by decide
theorem test_sample_conditions :
    (after (.sampleTimerExpiry (.value 5) (.value 150)) plant).plant.prot.coilCold = true := by decide
theorem test_contact_debounces :
    (after (.contactLevelChange .first .opened) zone).sensing.contact1.debounce = .running 12000 := by
  decide
def bouncing (s : State) (level : Level) : State :=
  { s with sensing :=
    { s.sensing with contact1 := { s.sensing.contact1 with level, debounce := .running 12000 } } }
theorem test_window_opens :
    (after (.debounceExpiry .first) (bouncing zone .opened)).zoneFlags.windowOpen = true := by decide
theorem test_defrost_ignored :
    (after (.debounceExpiry .first) (bouncing plant .closed)).plant.prot.ignored = 1 := by decide
def announcing (s : State) (a : Announcer) : State :=
  { s with demand := { s.demand with announcer := a }, plant := { s.plant with announcer := a } }
def timed : Announcer :=
  { period := .running 20000, spacing := .running 11000, waiting := true, last := some 40 }
theorem test_period_places :
    (after .announcePeriodExpiry (announcing zone timed)).line.queue.map TxEntry.kind = [.announce] := by
  decide
theorem test_spacing_places :
    (after .spacingExpiry (announcing zone timed)).demand.announcer.period = .running 26000 := by decide
theorem test_status_period_places :
    (after .statusPeriodExpiry (announcing plant timed)).plant.announcer.period = .running 25000 := by
  decide
theorem test_status_spacing_places :
    (after .statusSpacingExpiry (announcing plant timed)).line.queue.map TxEntry.kind =
      [.plantStatus] := by decide

/-! ### The share unit and the drive -/

theorem test_share_end_fallback :
    (after (.shareReckoningEnd false) (shareComputing zone)).share.record.case = .fallback ∧
    (after (.shareReckoningEnd false) (shareComputing zone)).share.record.cause = some .plantSilent := by
  decide
theorem test_share_end_served :
    (after (.shareReckoningEnd false) (shareComputing (withTable { zone with
      cfg := installed, demand := { zone.demand with wanted := .cool, demand := 70 } }
      [plantEntry 9 48]))).share.record.position = some 756 := by decide
theorem test_alignment_homes : (after (.alignmentEnd false) zone).drive.state = .homing := by decide
theorem test_homing_last_step : (after (.homingStep false false) (homing 1319)).drive.cause = .homeFail := by
  decide
/-- R85, R103: the first closing step takes the pattern the alignment held. -/
theorem test_first_step_aligned :
    (after (.homingStep false false) (homing 0)).drive.phaseOutputs = (homing 0).drive.phaseOutputs := rfl
theorem test_homing_found : (after (.homingStep false true) (homing 7)).drive.count = some 0 := by decide
/-- 05, a retarget and a slip: the stop found 58 steps early. -/
theorem test_move_slips : (after (.moveStep false true) (moving 58 0)).drive.slip = true ∧
    (after (.moveStep false true) (moving 25 0)).drive.slip = false := by decide
theorem test_move_unconfirmed : (after (.moveStep false false) (moving 1 0)).drive.state = .homing := by
  decide
theorem test_settle_end : (after .settleEnd (resting 756)).drive.phasesOn = false := by decide
theorem test_hold_expires : (after (.holdTimerExpiry false)
    (driven (resting 756) fun d => { d with hold := .running 600000 })).drive.target = 1200 := by decide

/-! ### The plant sequencer -/

def targeted (qt qb : Nat) : State :=
  { plant with plant := { plant.plant with air := { plant.plant.air with qt, qb } } }
theorem test_slew_up : (after .plantTimerExpiry (targeted 48 0)).plant.air.qb = 6 := by decide
theorem test_slew_meets : (after .plantTimerExpiry (targeted 48 45)).plant.air.qb = 48 := by decide
theorem test_reckoning_holds_start :
    (after .plantReckoningEnd (plantComputing (withTable plant [zoneEntry 8 40]))).plant.arb.startHeld =
      true := by decide
theorem test_reckoning_changes_over :
    (after .plantReckoningEnd (plantComputing (withTable (running .heat .expired .expired)
      [zoneEntry 8 100, zoneEntry 16 100]))).plant.arb.mode = .changeover := by decide
/-- The table of 07 over R133: A (w 2, D 70), B (w 1, D 20) and C (w 1, D 100) served. -/
theorem test_capacity_table :
    meanDemand ([(1, 2, 70), (2, 1, 20), (3, 1, 100)].map fun (a, w, d) =>
      newEntry a (.zone (ZoneRecord.ofBody (announceBody 2 d w 20 0)))) .cool = 65 ∧
    [runningCapacity Config.defaults .cool false false 65, runningCapacity Config.defaults .cool true false 65,
      runningCapacity Config.defaults .dry false false 65, runningCapacity Config.defaults .dry true false 65,
      runningCapacity Config.defaults .heat false true 65] = [73, 40, 88, 40, 60] := by decide
/-- R183: a mask of bit 0 alone shows a drive in FAULT, and not a zone without a plant. -/
theorem test_alert :
    ({ faulted with cfg := { faulted.cfg with alertMask := 1 } } : State).alertDriven = true ∧
    ({ zone with cfg := { zone.cfg with alertMask := 1 } } : State).alertDriven = false ∧
    ({ zone with cfg := { zone.cfg with alertMask := 8 } } : State).alertDriven = true := by decide
theorem test_min_on_expired :
    (after .minOnExpiry (running .heat (.running 11000) .expired)).plant.arb.minOn = .expired := by decide
theorem test_min_off_expired : (after .minOffExpiry plant).plant.arb.minOff = .expired := by decide
theorem test_dwell_expired :
    (after .dwellExpiry (running .heat .expired (.running 11000))).plant.arb.dwell = .expired := by decide
def paused : State :=
  { plant with plant := { plant.plant with arb :=
    { plant.plant.arb with mode := .changeover, pause := .running 12000, minOff := .running 12000 } } }
theorem test_pause_ends : (after .changeoverPauseExpiry paused).plant.arb.minOff = .expired := by decide
def protecting (f : Protection → Protection) : State :=
  { running .cool .expired .expired with plant :=
    { (running .cool .expired .expired).plant with prot := f plant.plant.prot } }
theorem test_frost_timer : (after .frostTimerExpiry (protecting fun p =>
    { p with guard := true, frostTimer := .running 12000 })).plant.prot.frostTimer = .expired := by decide
theorem test_trip_timer : (after .tripTimerExpiry (protecting fun p =>
    { p with trip := true, tripTimer := .running 12000 })).plant.prot.tripTimer = .expired := by decide
theorem test_overlong_timer : (after .defrostOverlongExpiry (protecting fun p =>
    { p with overlong := .running 12000 })).plant.prot.overlong = .expired := by decide

/-! ### The line -/

theorem test_received : (after (.receivedFrame (run (announceOf 16 40).bytes)) zone).line.pair =
    [announceOf 16 40] := by decide
theorem test_received_bad_check :
    (after (.receivedFrame (run [0xC3, 0, 16, 0x10, 1, 0, 0, 0])) zone).line.latches.check = true := by
  decide
theorem test_framing_error : (after (.framingError 0 false) zone).line.counters.framing = 1 := by decide
/-- R157: a line that a byte without a stop bit left in space is idle once it is back at mark. -/
theorem test_space_ends : (after (.framingError 0 true) zone).line.idle = false ∧
    (after .stuckEnd (after (.framingError 0 true) zone)).line.idle = true := by decide
theorem test_truncated : (after (.truncated (run [0xC3, 0])) zone).line.latches.truncated = true := by decide
theorem test_length : (after (.length (run [0xC3, 0, 9, 0x20, 33])) zone).line.latches.length = true := by
  decide
def waiting (extra : Nat) (q : List TxEntry) : State :=
  { queued zone q with line := { (queued zone q).line with wait := some extra } }
theorem test_attempt_gap :
    (after (.attemptStart 69) (waiting 1 [reply .result])).line.sending = none ∧
    ((after (.attemptStart 70) (waiting 1 [reply .result])).line.sending.map TxEntry.kind) =
      some .result := by decide
theorem test_attempt_urgent_first :
    ((after (.attemptStart 70) (waiting 1 [reply .result, reply .present])).line.sending.map
      TxEntry.kind) = some .present := by decide
theorem test_transmission_complete :
    (after .transmissionComplete (queued zone [flying (reply .result)])).line.queue = [] := by decide
theorem test_lost_sixteenth :
    (after (.lostAttempt 0 (some 0) false)
      (queued zone [{ flying (reply .result) with lost := 15 }])).line.latches.crowded = true := by decide
theorem test_lost_kept :
    ((after (.lostAttempt 0 (some 0) false) (queued zone [flying (reply .result)])).line.queue.map
      TxEntry.lost) = [1] := by decide
theorem test_stuck : (after .stuck zone).line.stuck = true := by decide
theorem test_stuck_end : (after .stuckEnd (after .stuck zone)).line.stuck = false := by decide

/-! ### For each statement, states and operands that meet its hypotheses -/

theorem witness_step_front :
    ({ zone with pending := [.settleEnd, .dump] } : State).pending = .settleEnd :: [.dump] := rfl
theorem witness_step_idle : zone.pending = [] ∧ zone.held = false ∧
    (after .resetAsserted zone).pending = [] ∧ (after .resetAsserted zone).held = true := by decide
theorem witness_held : (after .resetAsserted zone).held = true ∧
    (∀ role a x y, Instr.plantTimerExpiry ≠ .reset role a x y) ∧
    Instr.plantTimerExpiry ≠ .resetAsserted := by
  refine ⟨by decide, ?_, by decide⟩
  intro _ _ _ _ h
  cases h

/-- The hypotheses of `StartEndHandsOutTheProduct`. -/
def startEnds (s : State) (d : Nat) : Prop :=
  s.held = false ∧ s.member.station = .start ∧ s.startTimer = .running d ∧
  s.drive.hold.isRunning = false ∧
  (s.sensing.contact1.active = false ∧ s.sensing.contact2.active = false)
theorem witness_start_end : startEnds (station .zone .start) 10150 ∧
    startEnds (station .plant .start) 10150 ∧ (station .zone .start).address ≠ 0 ∧
    startEnds State.reset 150 ∧ State.reset.address = 0 := by
  refine ⟨?_, ?_, ?_, ?_, ?_⟩ <;> (try unfold startEnds) <;> decide
theorem witness_start_end_contacts : (station .plant .start).contactInUse .second = true ∧
    levelActive .plant ((station .plant .start).sensing.contact .second).level = true ∧
    levelActive .zone ((station .zone .start).sensing.contact .first).level = false := by decide

theorem witness_bad_images : ([] : List Byte).length < 64 ∧ byteAt (List.replicate 64 0) 0 ≠ 0xA5 ∧
    checkSums (((0xA5 : Byte) :: List.replicate 63 0).take 62) ≠
      (nat1 ((0xA5 : Byte) :: List.replicate 63 0) 62,
        nat1 ((0xA5 : Byte) :: List.replicate 63 0) 63) := by decide
theorem witness_good_images : imageGood decreasing ∧ imageGood rising ∧
    clampNat (nat2 decreasing (1 + 2 * (4 + 1))) 0 1200 < clampNat (nat2 decreasing (1 + 2 * 4)) 0 1200 ∧
    1200 < nat2 rising (1 + 2 * 8) ∧ nat1 rising 22 ∉ Set.Icc 2 80 ∧
    nat2 rising 40 ∉ Set.Icc 4 (clampNat (nat2 rising 38) 20 400) := by decide
theorem witness_decreasing_image : imagePresent decreasing = true ∧ imageChecked decreasing = true ∧
    clampNat (nat2 decreasing (1 + 2 * 5)) 0 1200 < clampNat (nat2 decreasing (1 + 2 * 4)) 0 1200 := by
  decide
theorem witness_rising_image : imagePresent rising = true ∧ imageChecked rising = true ∧
    ∀ i, i < 8 → clampNat (nat2 rising (1 + 2 * i)) 0 1200 ≤
      clampNat (nat2 rising (1 + 2 * (i + 1))) 0 1200 := by decide

theorem witness_join_window : (station .zone .listen).held = false ∧
    (station .zone .listen).member.station = .listen ∧
    (station .zone .listen).member.joinWindow = .running 12000 ∧
    (station .zone .listen).line.queue = [] := by decide
theorem witness_duplicate_hold : (station .zone .duplicate).held = false ∧
    (station .zone .duplicate).member.station = .duplicate ∧
    (station .zone .duplicate).member.duplicateHold = .running 130000 ∧
    (station .zone .duplicate).line.queue = [] := by decide
theorem witness_line_quiet : zone.held = false ∧ zone.member.lineQuiet = .running 70000 := by decide
theorem witness_roll_call_wait : ∀ r, (station r .claim).held = false ∧
    (station r .claim).member.station = .claim ∧
    (station r .claim).member.rollCallWait = .running 10250 ∧ (station r .claim).line.queue = [] ∧
    (station r .claim).role = r := by
  intro r
  cases r <;> decide

/-- A table with an entry at each limit: removed at 180, STALE at 45. -/
def agedTable : List Entry :=
  [stale (zoneEntry 8 10) 179, { zoneEntry 16 10 with age := 44 }, { plantEntry 9 48 with age := 14 },
    zoneEntry 1 10]
theorem witness_aging : (withTable zone agedTable).held = false ∧
    (withTable zone agedTable).member.aging = .running 11000 ∧
    (withTable zone agedTable).occupied = false ∧
    (∀ e ∈ (withTable zone agedTable).member.table, e.age ≤ 179) ∧
    (∃ e ∈ (withTable zone agedTable).member.table, e.age = 179) ∧
    ∃ e ∈ (withTable zone agedTable).member.table,
      e.standing = .fresh ∧ e.age + 1 = staleLimit e.role := by decide
theorem witness_aging_deferred : (withTable zone agedTable).beginShare.held = false ∧
    (withTable zone agedTable).beginShare.member.aging = .running 11000 ∧
    (withTable zone agedTable).beginShare.occupied = true := by decide

def shareBegun (deferred : Nat) : State :=
  let s := (withTable zone agedTable).beginShare
  { s with member := { s.member with deferred } }
theorem witness_share_snapshot : ∀ n, ∃ f, (shareBegun n).held = false ∧
    (shareBegun n).share.flight = some f ∧ f.phase = .snapshot ∧ (shareBegun n).member.deferred = n ∧
    (shareBegun n).member.emptying = none ∧
    (∀ g, (shareBegun n).plant.flight = some g → g.phase = .computing) := by
  intro n
  refine ⟨_, rfl, rfl, rfl, rfl, rfl, ?_⟩
  intro g h
  cases h
theorem witness_plant_snapshot : ∃ f, (withTable plant agedTable).beginPlant.held = false ∧
    (withTable plant agedTable).beginPlant.plant.flight = some f ∧ f.phase = .snapshot ∧
    (withTable plant agedTable).beginPlant.member.deferred = 0 ∧
    (withTable plant agedTable).beginPlant.member.emptying = none :=
  ⟨_, rfl, rfl, rfl, rfl, rfl⟩

/-- An emptying that waits on a snapshot of a unit, with deferred agings. -/
def emptyingWaits (s : State) (deferred : Nat) : State :=
  { s with member := { s.member with deferred, emptying := some true, followed := none } }
theorem witness_emptying_waits : ∃ f, (emptyingWaits (withTable zone agedTable).beginShare 0).held = false ∧
    (emptyingWaits (withTable zone agedTable).beginShare 0).share.flight = some f ∧
    f.phase = .snapshot ∧ ((emptyingWaits (withTable zone agedTable).beginShare 0).onShare fun u =>
      { u with flight := some { f with phase := .computing, due := f.due + 2 } }).occupied = false ∧
    (emptyingWaits (withTable zone agedTable).beginShare 0).member.followed = none ∧
    ∀ e ∈ agedTable, e.age ≤ 179 := by
  refine ⟨_, rfl, rfl, rfl, ?_, ?_, ?_⟩ <;> decide
/-- In the plant role, with one aging deferred that turns an entry STALE and leaves one. -/
theorem witness_emptying_waits_again : ∃ f,
    (emptyingWaits (withTable plant agedTable).beginShare 1).share.flight = some f ∧
    f.phase = .snapshot ∧ (withTable plant agedTable).beginShare.plant.flight = none ∧
    (emptyingWaits (withTable plant agedTable).beginShare 1).member.deferred = 1 ∧
    (∃ e ∈ agedTable, e.age = 179) ∧ (∃ e ∈ agedTable, e.age < 179) ∧
    (after (.snapshotEnd .share)
      (emptyingWaits (withTable plant agedTable).beginShare 1)).member.emptying = some true := by
  refine ⟨_, rfl, rfl, ?_, ?_, ?_, ?_, ?_⟩ <;> decide

def writing (s : State) (f : Frame) : State := { s with line := { s.line with current := some f } }
theorem writes_heard (s : State) (f : Frame) (h : s.held = false) (hs : s.member.station ≠ .start)
    (ho : s.occupied = false) (hc : s.line.current = none)
    (hf : f.src.toNat ≠ 0 ∧ f.src.toNat ≠ s.address) (hk : f.isKind .announce = true) :
    writesTable .announce f (hearing s f) :=
  ⟨h, hs, ho, hf, .inl ⟨hc, ⟨_, rfl⟩, .inl ⟨rfl, hk⟩⟩⟩
theorem writes_status (s : State) (f : Frame) (h : s.held = false) (hs : s.member.station ≠ .start)
    (ho : s.occupied = false) (hc : s.line.current = none)
    (hf : f.src.toNat ≠ 0 ∧ f.src.toNat ≠ s.address) (hk : f.isKind .plantStatus = true) :
    writesTable .plantStatus f (hearing s f) :=
  ⟨h, hs, ho, hf, .inl ⟨hc, ⟨_, rfl⟩, .inr ⟨rfl, hk⟩⟩⟩
theorem writes_waiting (s : State) (f : Frame) (h : s.held = false) (hs : s.member.station ≠ .start)
    (ho : s.occupied = false) (hf : f.src.toNat ≠ 0 ∧ f.src.toNat ≠ s.address)
    (hk : f.isKind .announce = true) : writesTable .tableWriteApplied f (writing s f) :=
  ⟨h, hs, ho, hf, .inr ⟨rfl, rfl, .inl hk⟩⟩
theorem witness_admitted :
    writesTable .announce (announceOf 16 40) (hearing (withTable zone [zoneEntry 8 10]) (announceOf 16 40)) ∧
    writesTable .plantStatus (statusOf 9 2 48) (hearing (withTable zone [zoneEntry 8 10]) (statusOf 9 2 48)) ∧
    writesTable .tableWriteApplied (announceOf 16 40)
      (writing (withTable zone [zoneEntry 8 10]) (announceOf 16 40)) ∧
    (∀ e ∈ (withTable zone [zoneEntry 8 10]).member.table, e.address ≠ (announceOf 16 40).src.toNat) ∧
    (withTable zone [zoneEntry 8 10]).member.table.length < 24 := by
  refine ⟨writes_heard _ _ ?_ ?_ ?_ ?_ ?_ ?_, writes_status _ _ ?_ ?_ ?_ ?_ ?_ ?_,
    writes_waiting _ _ ?_ ?_ ?_ ?_ ?_, ?_, ?_⟩ <;> decide
theorem witness_admitted_last : (withTable zone (fullTable.take 23)).member.table.length = 23 ∧
    (∀ e ∈ (withTable zone (fullTable.take 23)).member.table, e.address ≠ 63) := by decide
/-- A refresh with the record it had, with a changed D, of a STALE entry, and with the other role. -/
theorem witness_refreshed :
    writesTable .announce (announceOf 8 10) (hearing (withTable zone [zoneEntry 8 10]) (announceOf 8 10)) ∧
    (withTable zone [zoneEntry 8 10]).member.table.find? (fun e => e.address == 8) =
      some (zoneEntry 8 10) ∧
    (zoneEntry 8 10).standing = .fresh ∧ (zoneEntry 8 10).record = (announceOf 8 10).record ∧
    (zoneEntry 8 10).record ≠ (announceOf 8 40).record ∧
    (stale (zoneEntry 8 10) 45).standing = .stale ∧
    (zoneEntry 8 10).role ≠ (statusOf 8 2 48).record.role := by
  refine ⟨writes_heard _ _ ?_ ?_ ?_ ?_ ?_ ?_, ?_, ?_, ?_, ?_, ?_, ?_⟩ <;> decide
/-- A followed plant whose Qb changes, a zone whose weight alone changes, and one without a change. -/
theorem witness_refreshed_triggers :
    (withTable zone [plantEntry 9 48]).member.followed = some (plantEntry 9 48).address ∧
    (plantEntry 9 48).record = .plant (PlantRecord.ofBody (statusOf 9 2 48).body) ∧
    (statusOf 9 2 60).record = .plant (PlantRecord.ofBody (statusOf 9 2 60).body) ∧
    plantFieldsDiffer (PlantRecord.ofBody (statusOf 9 2 48).body)
      (PlantRecord.ofBody (statusOf 9 2 60).body) ∧
    (ZoneRecord.ofBody (announceBody 2 10 1 20 0)).weight ≠
      (ZoneRecord.ofBody (announceBody 2 10 4 20 0)).weight ∧
    ¬zoneFieldsDiffer (ZoneRecord.ofBody (announceBody 2 10 1 20 0))
      (ZoneRecord.ofBody (announceBody 2 10 4 20 0)) ∧
    zoneFieldsDiffer (ZoneRecord.ofBody (announceBody 2 10 1 20 0))
      (ZoneRecord.ofBody (announceBody 2 40 1 20 0)) ∧
    (zoneEntry 8 10).role = (announceOf 8 40).record.role := by
  refine ⟨?_, ?_, ?_, ?_, ?_, ?_, ?_, ?_⟩ <;>
    (try unfold plantFieldsDiffer) <;> (try unfold zoneFieldsDiffer) <;> decide
theorem witness_full_fresh :
    writesTable .announce (announceOf 63 40) (hearing (withTable zone fullTable) (announceOf 63 40)) ∧
    Table.wf 5 fullTable ∧ fullTable.length = 24 ∧
    (∀ e ∈ fullTable, e.address ≠ (announceOf 63 40).src.toNat) ∧
    ∀ e ∈ fullTable, e.standing = .fresh := by
  refine ⟨writes_heard _ _ ?_ ?_ ?_ ?_ ?_ ?_, ?_, ?_, ?_, ?_⟩ <;> decide
def staleTable : List Entry :=
  fullTable.map fun e => if e.address = 16 ∨ e.address = 9 then stale e 100 else e
theorem witness_full_stale :
    writesTable .announce (announceOf 63 40) (hearing (withTable zone staleTable) (announceOf 63 40)) ∧
    Table.wf 5 staleTable ∧ staleTable.length = 24 ∧
    (∀ e ∈ staleTable, e.address ≠ (announceOf 63 40).src.toNat) ∧
    ∃ e ∈ staleTable, e.standing = .stale := by
  refine ⟨writes_heard _ _ ?_ ?_ ?_ ?_ ?_ ?_, ?_, ?_, ?_, ?_⟩ <;> decide

theorem front (s : State) (f : Frame) (h : s.held = false) (hc : s.line.current = none) :
    (hearing s f).atFront f [] := ⟨h, hc, rfl⟩
theorem witness_tabling_waits :
    (hearing (withTable zone [zoneEntry 8 10]).beginShare (announceOf 16 40)).atFront
      (announceOf 16 40) [] ∧
    (withTable zone [zoneEntry 8 10]).beginShare.member.station ≠ .start ∧
    (announceOf 16 40).isKind .announce = true ∧ (announceOf 16 40).src.toNat ≠ 0 ∧
    (announceOf 16 40).src.toNat ≠ 5 ∧ (withTable zone [zoneEntry 8 10]).beginShare.occupied = true ∧
    (statusOf 0 2 48).isKind .plantStatus = true ∧ (statusOf 0 2 48).src.toNat = 0 := by
  refine ⟨front _ _ ?_ ?_, ?_, ?_, ?_, ?_, ?_, ?_, ?_⟩ <;> decide

def restarting (s : State) : State := { s with member := { s.member with restartsHanded := 1 } }
theorem witness_restart : ∀ r, (restarting (station r .online)).held = false ∧
    (restarting (station r .online)).member.restartsHanded = 0 + 1 ∧
    (restarting (station r .online)).member.station = .online ∧
    (restarting (withTable (station r .duplicate) agedTable)).member.table ≠ [] ∧
    (restarting (station r .online)).occupied = false ∧
    (restarting (station r .online)).responder.waiting = [] ∧
    (restarting (withTable (station r .online) agedTable).beginShare).occupied = true := by
  intro r
  cases r <;> decide
theorem witness_own_frame :
    (hearing plant (announceOf 5 40)).atFront (announceOf 5 40) [] ∧
    takesFrame .announce (announceOf 5 40) = true ∧ (announceOf 5 40).src.toNat = plant.address ∧
    plant.address ≠ 0 ∧ plant.member.station = .online ∧
    (hearing (station .zone .listen) (frame 5 5 0x10 [0])).atFront (frame 5 5 0x10 [0]) [] ∧
    takesFrame .rollCall (frame 5 5 0x10 [0]) = true ∧
    (station .zone .listen).member.station = .listen ∧
    (station .zone .claim).member.station = .claim ∧
    takesFrame .plantStatus (statusOf 5 2 48) = true ∧
    takesFrame .present (frame 0 5 0x11 [0]) = true ∧
    takesFrame .setpointReply (frame 0 5 0x31 [3]) = true ∧
    takesFrame .result (frame 0 5 0x42 [1, 0, 0]) = true := by
  refine ⟨front _ _ ?_ ?_, ?_, ?_, ?_, ?_, front _ _ ?_ ?_, ?_, ?_, ?_, ?_, ?_, ?_, ?_⟩ <;> decide
/-- A SETPOINT and a request from the own address, and evidence in DUPLICATE. -/
theorem witness_own_frame_handled :
    (hearing zone (frame 5 5 0x30 [6, 1, 0, 0x80, 80, 0])).atFront (frame 5 5 0x30 [6, 1, 0, 0x80, 80, 0]) [] ∧
    takesFrame .setpoint (frame 5 5 0x30 [6, 1, 0, 0x80, 80, 0]) = true ∧
    (frame 5 5 0x30 [6, 1, 0, 0x80, 80, 0]).src.toNat = zone.address ∧
    takesFrame (Request.command false .hold) (order [18, 44, 1] 5) = true ∧
    takesFrame (Request.command false .peer) (query [1, 13] 5) = true ∧
    (order [18, 44, 1] 5).src.toNat = zone.address ∧
    (hearing (station .zone .duplicate) (announceOf 5 40)).atFront (announceOf 5 40) [] ∧
    (station .zone .duplicate).member.station = .duplicate := by
  refine ⟨front _ _ ?_ ?_, ?_, ?_, ?_, ?_, ?_, front _ _ ?_ ?_, ?_⟩ <;> decide
theorem witness_roll_call : (hearing zone (frame 5 5 0x10 [0])).atFront (frame 5 5 0x10 [0]) [] ∧
    (frame 5 5 0x10 [0]).isKind .rollCall = true ∧ (frame 5 5 0x10 [0]).src.toNat = zone.address ∧
    zone.address ≠ 0 ∧ zone.member.station = .online ∧ zone.line.replies < 3 ∧
    (queued zone [reply .result, reply .result]).line.replies = 2 ∧
    3 ≤ (queued zone [reply .result, reply .result, reply .present]).line.replies := by
  refine ⟨front _ _ ?_ ?_, ?_, ?_, ?_, ?_, ?_, ?_, ?_⟩ <;> decide
theorem witness_discarded :
    (hearing zone (frame 9 9 0x10 [0])).atFront (frame 9 9 0x10 [0]) [] ∧
    takesFrame .rollCall (frame 9 9 0x10 [0]) = true ∧ (frame 9 9 0x10 [0]).src.toNat ≠ 5 ∧
    takesFrame .result (frame 5 0 0x42 [1, 0, 0]) = true ∧ (frame 5 0 0x42 [1, 0, 0]).src.toNat = 0 ∧
    (frame 0 9 0x55 []).form = none ∧ zone.member.station ≠ .start ∧
    (hearing (station .zone .start) (announceOf 9 40)).atFront (announceOf 9 40) [] ∧
    takesFrame .announce (announceOf 9 40) = true ∧
    (station .zone .start).member.station = .start := by
  refine ⟨front _ _ ?_ ?_, ?_, ?_, ?_, ?_, ?_, ?_, front _ _ ?_ ?_, ?_, ?_⟩ <;> decide

/-! The service requests. -/

theorem asked_of (s : State) (f : Frame) (h : s.held = false) (hc : s.line.current = none)
    (ho : s.member.station = .online) (hr : s.line.replies < 3) (hd : f.dest.toNat ≠ 0)
    (h0 : f.src.toNat ≠ 0) (hs : f.src.toNat ≠ s.address) : (hearing s f).asked f [] :=
  ⟨⟨h, hc, rfl⟩, ho, ⟨hd, h0, hs⟩, hr⟩
/-- BUSY in a dump, UNKNOWN, ROLE, and RANGE at the ends of the parameters' ranges. -/
theorem witness_turned_away :
    (hearing (dumping zone (dumpAt 5 1 23 false)) (query [3])).asked (query [3]) [] ∧
    (query [3]).makes .share = true ∧ (query [3]).request ≠ some .restart ∧
    (hearing zone (query [9])).asked (query [9]) [] ∧ (query [9]).makes .peer = true ∧
    (query [9]).request = none ∧
    (hearing zone (query [4, 0])).asked (query [4, 0]) [] ∧ (query [4, 0]).makes .plant = true ∧
    (query [4, 0]).request = some .plant ∧ zone.role = .zone ∧
    (hearing zone (query [1, 64])).asked (query [1, 64]) [] ∧ (query [1, 64]).makes .peer = true ∧
    (query [1, 64]).request = some .peer ∧ Request.inRange .peer (query [1, 64]) = false ∧
    Request.inRange .dump (query [5, 0, 0]) = false ∧ Request.inRange .status (query [2, 4, 0]) = false := by
  refine ⟨asked_of _ _ ?_ ?_ ?_ ?_ ?_ ?_ ?_, ?_, ?_, asked_of _ _ ?_ ?_ ?_ ?_ ?_ ?_ ?_, ?_, ?_,
    asked_of _ _ ?_ ?_ ?_ ?_ ?_ ?_ ?_, ?_, ?_, ?_, asked_of _ _ ?_ ?_ ?_ ?_ ?_ ?_ ?_, ?_, ?_, ?_, ?_, ?_⟩
    <;> decide
theorem witness_unanswered :
    (hearing zone (frame 0 60 0x40 [3])).atFront (frame 0 60 0x40 [3]) [] ∧
    (frame 0 60 0x40 [3]).makes .share = true ∧ (frame 0 60 0x40 [3]).dest.toNat = 0 ∧
    (frame 0 60 0x40 [3]).src.toNat ≠ zone.address ∧ (query [3] 0).makes .share = true ∧
    (query [3] 0).src.toNat = 0 := by
  refine ⟨front _ _ ?_ ?_, ?_, ?_, ?_, ?_, ?_⟩ <;> decide
/-- An empty chain, a chain without the address, and the last entry of a chain; address 0 and 63. -/
theorem witness_peer :
    (hearing (withTable zone [zoneEntry 8 10, zoneEntry 13 40]) (query [1, 13])).asked (query [1, 13]) [] ∧
    (query [1, 13]).request = some .peer ∧ zone.responder.dump = none ∧
    (query [1, 13]).body[1]? = some 13 ∧ (63 : Byte).toNat ≤ 63 ∧
    chain [zoneEntry 8 10, zoneEntry 13 40] (63 % 8) = [] ∧
    chain [zoneEntry 8 10, zoneEntry 13 40] (0 % 8) ≠ [] ∧
    (∀ e ∈ chain [zoneEntry 8 10, zoneEntry 13 40] (0 % 8), e.address ≠ 0) ∧
    chain [zoneEntry 8 10, zoneEntry 13 40] (13 % 8) = [] ++ zoneEntry 13 40 :: [] := by
  refine ⟨asked_of _ _ ?_ ?_ ?_ ?_ ?_ ?_ ?_, ?_, ?_, ?_, ?_, ?_, ?_, ?_, ?_⟩ <;> decide
theorem witness_status :
    (hearing zone (query [2, 3, 1])).asked (query [2, 3, 1]) [] ∧
    (query [2, 3, 1]).request = some .status ∧ zone.responder.dump = none ∧
    (query [2, 3, 1]).body[1]? = some 3 ∧ (query [2, 3, 1]).body[2]? = some 1 ∧
    (hearing zone (query [2, 0, 0])).asked (query [2, 0, 0]) [] ∧
    (query [2, 0, 0]).request = some .status ∧ (query [2, 0, 0]).body[2]? = some 0 := by
  refine ⟨asked_of _ _ ?_ ?_ ?_ ?_ ?_ ?_ ?_, ?_, ?_, ?_, ?_, asked_of _ _ ?_ ?_ ?_ ?_ ?_ ?_ ?_, ?_, ?_⟩
    <;> decide
theorem witness_share_and_plant :
    (hearing zone (query [3])).asked (query [3]) [] ∧ (query [3]).request = some .share ∧
    zone.responder.dump = none ∧
    (hearing plant (query [4, 1])).asked (query [4, 1]) [] ∧ (query [4, 1]).request = some .plant ∧
    plant.responder.dump = none ∧ plant.role = .plant ∧ (query [4, 1]).body[1]? = some 1 ∧
    (query [4, 0]).body[1]? = some 0 := by
  refine ⟨asked_of _ _ ?_ ?_ ?_ ?_ ?_ ?_ ?_, ?_, ?_, asked_of _ _ ?_ ?_ ?_ ?_ ?_ ?_ ?_, ?_, ?_, ?_, ?_, ?_⟩
    <;> decide
/-- A dump of one entry and of 24, from chain 0 and from chain 7. -/
theorem witness_dump :
    (hearing (withTable zone [zoneEntry 13 40]) (query [5, 0, 1])).asked (query [5, 0, 1]) [] ∧
    (query [5, 0, 1]).request = some .dump ∧ zone.responder.dump = none ∧
    (query [5, 0, 1]).body[1]? = some 0 ∧ (query [5, 0, 1]).body[2]? = some 1 ∧
    (query [5, 7, 24]).request = some .dump ∧ (query [5, 7, 24]).body[1]? = some 7 ∧
    (query [5, 7, 24]).body[2]? = some 24 := by
  refine ⟨asked_of _ _ ?_ ?_ ?_ ?_ ?_ ?_ ?_, ?_, ?_, ?_, ?_, ?_, ?_, ?_⟩ <;> decide
theorem witness_walk_finds : walkFinds [zoneEntry 13 40] 0 0 5 0 (zoneEntry 13 40) ∧
    walkFinds [zoneEntry 13 40] 5 0 5 0 (zoneEntry 13 40) ∧ walkEnds [zoneEntry 13 40] 5 1 ∧
    walkEnds [zoneEntry 13 40] 7 0 := by
  refine ⟨⟨by decide, by decide, .inr ⟨by decide, rfl, by decide, ?_⟩⟩,
    ⟨by decide, by decide, .inl ⟨rfl, rfl⟩⟩, ⟨by decide, ?_⟩, ⟨by decide, ?_⟩⟩
  · intro j h k
    have : j = 1 ∨ j = 2 ∨ j = 3 ∨ j = 4 := by omega
    rcases this with rfl | rfl | rfl | rfl <;> decide
  · intro j h k
    have : j = 6 ∨ j = 7 := by omega
    rcases this with rfl | rfl <;> decide
  · intro j h k
    omega
theorem witness_dump_next : ∀ abort, (dumping zone (dumpAt 5 0 1 abort)).held = false ∧
    (dumping zone (dumpAt 5 0 1 abort)).responder.dump = some (dumpAt 5 0 1 abort) ∧
    (dumpAt 5 0 1 abort).nextDue = true ∧ (dumpAt 5 0 1 abort).chain ≤ 7 ∧
    (dumpAt 7 0 24 abort).chain ≤ 7 ∧
    (dumping zone (dumpAt 5 0 1 abort)).member.station = .online ∧
    (dumping zone (dumpAt 5 0 1 abort)).line.replies < 3 ∧
    (dumping (station .zone .listen) (dumpAt 5 0 1 abort)).member.station ≠ .online ∧
    3 ≤ (dumping (queued zone [reply .result, reply .present, reply .present])
      (dumpAt 5 0 1 abort)).line.replies := by
  intro abort
  cases abort <;> decide
theorem witness_clear :
    (hearing faulted (order [16])).asked (order [16]) [] ∧ (order [16]).request = some .clear ∧
    faulted.responder.dump = none ∧ faulted.drive.wf ∧ faulted.drive.state = .fault ∧
    faulted.drive.hold.isRunning = false ∧ (resting 756).drive.wf ∧
    (resting 756).drive.state ≠ .fault ∧ (resting 756).drive.hold.isRunning = false ∧
    (driven (resting 756) fun d => { d with hold := .running 600000 }).drive.wf ∧
    (driven (resting 756) fun d => { d with hold := .running 600000 }).drive.hold.isRunning = true ∧
    (hearing plant (order [16])).asked (order [16]) [] ∧ plant.drive.wf ∧ plant.role = .plant := by
  refine ⟨asked_of _ _ ?_ ?_ ?_ ?_ ?_ ?_ ?_, ?_, ?_, ?_, ?_, ?_, ?_, ?_, ?_, ?_, ?_,
    asked_of _ _ ?_ ?_ ?_ ?_ ?_ ?_ ?_, ?_, ?_⟩ <;> decide
/-- HOLD at its highest target 1200 and one above it; REHOME in every drive state. -/
theorem witness_hold_rehome :
    (hearing (resting 756) (order [18, 176, 4])).asked (order [18, 176, 4]) [] ∧
    (order [18, 176, 4]).request = some .hold ∧ nat2 (order [18, 176, 4]).body 1 = 1200 ∧
    nat2 (order [18, 177, 4]).body 1 = 1201 ∧ 3 ≤ (order [18, 177, 4]).body.length ∧
    (hearing zone (order [17])).asked (order [17]) [] ∧ (order [17]).request = some .rehome ∧
    zone.responder.dump = none ∧ zone.drive.state = .unhomed ∧ (homing 7).drive.state = .homing ∧
    (resting 756).drive.state = .idle ∧ (moving 58 0).drive.state = .moving ∧
    faulted.drive.state = .fault := by
  refine ⟨asked_of _ _ ?_ ?_ ?_ ?_ ?_ ?_ ?_, ?_, ?_, ?_, ?_, asked_of _ _ ?_ ?_ ?_ ?_ ?_ ?_ ?_, ?_, ?_, ?_,
    ?_, ?_, ?_, ?_⟩ <;> decide
/-- The orders outside ONLINE, where no answer can be placed, and to a drive in FAULT. -/
theorem witness_ordered :
    (hearing (station .zone .duplicate) (order [16])).ordered (order [16]) [] ∧
    (hearing faulted (order [16])).ordered (order [16]) [] ∧ faulted.line.replies < 3 ∧
    (hearing (station .zone .claim) (order [18, 176, 4])).ordered (order [18, 176, 4]) [] ∧
    (hearing (resting 756) (order [17])).ordered (order [17]) [] ∧
    (station .zone .duplicate).member.station ≠ .online := by
  refine ⟨⟨front _ _ ?_ ?_, ?_, ?_⟩, ⟨front _ _ ?_ ?_, ?_, ?_⟩, ?_, ⟨front _ _ ?_ ?_, ?_, ?_⟩,
    ⟨front _ _ ?_ ?_, ?_, ?_⟩, ?_⟩ <;> decide
theorem witness_restart_order :
    (hearing zone (order [19])).asked (order [19]) [] ∧ (order [19]).request = some .restart ∧
    zone.responder.dump = none ∧ zone.responder.orderly ∧
    (hearing (station .zone .duplicate) (order [19])).atFront (order [19]) [] ∧
    (order [19]).dest.toNat ≠ 0 ∧ (order [19]).src.toNat ≠ 0 ∧ (order [19]).src.toNat ≠ 5 ∧
    (station .zone .duplicate).member.station = .duplicate ∧
    (hearing (dumping zone (dumpAt 5 1 23 false)) (order [19])).asked (order [19]) [] ∧
    (dumping zone (dumpAt 5 1 23 false)).responder.dump = some (dumpAt 5 1 23 false) ∧
    (order [19]).src.toNat = (dumpAt 5 1 23 false).requester ∧
    (order [19] 61).src.toNat ≠ (dumpAt 5 1 23 false).requester := by
  refine ⟨asked_of _ _ ?_ ?_ ?_ ?_ ?_ ?_ ?_, ?_, ?_, ?_, front _ _ ?_ ?_, ?_, ?_, ?_, ?_,
    asked_of _ _ ?_ ?_ ?_ ?_ ?_ ?_ ?_, ?_, ?_, ?_⟩ <;> decide

/-- Three replies held, and a second order while the first one waits with the abort mark set. -/
def crowdedOut (s : State) : State := queued s [reply .result, reply .present, reply .present]
def secondOrder : State :=
  { dumping zone (dumpAt 5 1 23 true) with
    responder := { dump := some (dumpAt 5 1 23 true), waiting := [{ done := false, dumpEnd := true }] } }
theorem witness_restart_dropped :
    (hearing (crowdedOut zone) (order [19])).ordered (order [19]) [] ∧
    3 ≤ (hearing (crowdedOut zone) (order [19])).line.replies ∧
    (hearing (crowdedOut zone) (order [19])).member.station = .online ∧
    (hearing secondOrder (order [19] 61)).ordered (order [19] 61) [] ∧
    (hearing secondOrder (order [19] 61)).responder.orderly ∧
    (hearing secondOrder (order [19] 61)).line.replies < 3 ∧
    (hearing (crowdedOut secondOrder) (order [19] 61)).ordered (order [19] 61) [] ∧
    3 ≤ (hearing (crowdedOut secondOrder) (order [19] 61)).line.replies := by
  refine ⟨⟨front _ _ ?_ ?_, ?_, ?_⟩, ?_, ?_, ⟨front _ _ ?_ ?_, ?_, ?_⟩, ?_, ?_,
    ⟨front _ _ ?_ ?_, ?_, ?_⟩, ?_⟩ <;> decide

/-! Sensing, demand, setpoints, announcements. -/

theorem witness_sample : ∀ r, (station r .online).held = false ∧
    (station r .online).sensing.sample = .running 12000 ∧
    ((station r .online).sensing.first.good ≤ 3 ∧ (station r .online).sensing.second.good ≤ 3) ∧
    (station r .online).role = r := by
  intro r
  cases r <;> decide
theorem witness_setpoints_wf : zone.SetpointsWf ∧
    0 < (({ zone with sensing := { zone.sensing with first :=
      { filtered := some 199, fault := false, bad := 0, good := 3 } } } : State).formDemands).demand.dHeat ∧
    0 < (({ zone with sensing := { zone.sensing with first :=
      { filtered := some 241, fault := false, bad := 0, good := 3 } } } : State).formDemands).demand.dCool := by
  decide
/-- Three changes at one hand-over: the coil channel becomes USABLE, cold and frozen. -/
theorem witness_sample_changes :
    ((after (.sampleTimerExpiry (.value (-50)) .openCircuit) plant).conditionChanges plant).count true = 3 ∧
    plant.plant.flight = none := by decide
theorem witness_contact_level : zone.held = false ∧ (zone.sensing.contact .first).level ≠ .opened ∧
    zone.contactInUse .first = true ∧ zone.contactInUse .second = false ∧
    (station .zone .start).member.station = .start := by decide
theorem witness_debounce : ∀ r,
    (bouncing (station r .online) .opened).held = false ∧
    ((bouncing (station r .online) .opened).sensing.contact .first).debounce = .running 12000 ∧
    (bouncing (station r .online) .closed).role = r := by
  intro r
  cases r <;> decide
theorem witness_setpoint :
    (hearing zone (frame 5 50 0x30 [6, 1, 0, 0x80, 80, 0])).atFront
      (frame 5 50 0x30 [6, 1, 0, 0x80, 80, 0]) [] ∧
    (frame 5 50 0x30 [6, 1, 0, 0x80, 80, 0]).isKind .setpoint = true ∧
    zone.member.station = .online ∧ zone.line.replies < 3 ∧
    (frame 5 50 0x30 [6, 1, 0, 0x80, 80, 0]).src.toNat ≠ 5 ∧
    (frame 5 50 0x30 [6, 1, 0, 0x80, 80, 0]).src.toNat ≠ 0 ∧
    (frame 5 50 0x30 [6, 1, 0, 0x80, 80, 0]).dest.toNat ≠ 0 ∧ zone.role = .zone ∧
    plant.role = .plant ∧ plant.member.station = .online := by
  refine ⟨front _ _ ?_ ?_, ?_, ?_, ?_, ?_, ?_, ?_, ?_, ?_, ?_⟩ <;> decide
theorem witness_setpoint_unanswered :
    (hearing (station .zone .listen) (frame 5 50 0x30 [6, 1, 0, 0x80, 80, 0])).atFront
      (frame 5 50 0x30 [6, 1, 0, 0x80, 80, 0]) [] ∧
    (station .zone .listen).member.station ≠ .start ∧ (station .zone .listen).member.station ≠ .online ∧
    (frame 0 50 0x30 [6, 1, 0, 0x80, 80, 0]).isKind .setpoint = true ∧
    (frame 0 50 0x30 [6, 1, 0, 0x80, 80, 0]).dest.toNat = 0 := by
  refine ⟨front _ _ ?_ ?_, ?_, ?_, ?_, ?_⟩ <;> decide
theorem witness_setpoint_stages : (setpointsOf 200 240 55).figures.wf ∧ (setpointsOf 200 240 55).home.wf ∧
    (setpointsOf 300 320 70).figures.wf ∧ (setpointsOf 100 120 35).figures.wf ∧
    0 ≤ Config.defaults.lockSpan ∧ Config.defaults.panelLock = false ∧
    ({ Config.defaults with panelLock := true } : Config.Product).panelLock = true := by decide
theorem witness_period : (announcing zone timed).held = false ∧
    (announcing zone timed).member.station = .online ∧ (announcing zone timed).role = .zone ∧
    (announcing zone timed).announcer.period = .running 20000 ∧
    (announcing zone timed).announcer.spacing = .running 11000 ∧
    (announcing zone timed).announcer.waiting = true ∧
    (announcing plant { timed with waiting := false }).announcer.waiting = false ∧
    (announcing plant timed).role = .plant ∧ (announcing plant timed).line.queue = [] ∧
    (∃ e ∈ (queued (announcing zone timed) [flying (reply .announce)]).line.queue,
      e.kind = ownKind .zone ∧ e.inFlight = true) ∧
    (∀ e ∈ (queued (announcing zone timed) [flying (reply .announce)]).line.queue,
      e.kind ≠ .rollCall) := by decide

/-- A prompt cause in each announcement state: nothing queued, an unsent announcement, one in flight, the
spacing timer running; and a sample that gives none. -/
def losing : State :=
  { zone with sensing := { zone.sensing with first := { zone.sensing.first with bad := 4 } } }
theorem witness_prompts : losing.held = false ∧ losing.member.station = .online ∧
    (after (.sampleTimerExpiry .openCircuit (.value 500)) losing).zoneFlags ≠ losing.zoneFlags ∧
    losing.line.queue = [] ∧ losing.announcer.spacing.isRunning = false ∧
    (announcing losing timed).announcer.spacing.isRunning = true ∧
    (∀ e ∈ (queued losing [reply .announce]).line.queue, e.kind = ownKind losing.role ∧ e.inFlight = false) ∧
    (∀ e ∈ (queued losing [flying (reply .announce)]).line.queue,
      e.kind = ownKind losing.role ∧ e.inFlight = true) ∧
    (after (.sampleTimerExpiry .openCircuit (.value 500)) zone).zoneFlags = zone.zoneFlags := by decide
theorem witness_prompts_plant : plant.role = .plant ∧ plant.member.station = .online ∧
    (after .plantReckoningEnd (plantComputing (running .heat .expired .expired))).plant.arb.mode ≠
      (plantComputing (running .heat .expired .expired)).plant.arb.mode := by decide

/-! The share unit and the drive. -/

theorem witness_share_end : ∃ f, (shareComputing zone).held = false ∧
    (shareComputing zone).share.flight = some f ∧ f.phase = .computing := ⟨_, rfl, rfl, rfl⟩
/-- A position is handed at a difference of 12 and to the ends of travel, and not at 11. -/
theorem witness_deadband : handedOver 756 744 = true ∧ handedOver 756 745 = false ∧
    handedOver 0 1 = true ∧ handedOver 1200 1199 = true ∧ handedOver 0 0 = false := by decide
theorem witness_share_cases :
    (shareComputing (station .zone .listen)).share.flight.map (fun f => f.snapshot.online) = some false ∧
    (shareComputing (withTable zone [plantEntry 9 48])).share.flight.map (fun f =>
      (f.snapshot.online, f.snapshot.silent, f.snapshot.source.isSome)) = some (true, false, true) ∧
    (shareComputing (withTable plant [])).share.flight.map (fun f =>
      (shareOutcome .plant Config.defaults f.snapshot).position) = some none := by
  decide
theorem witness_table : Config.straightLine.length = 9 ∧ Config.straightLine.Pairwise (· ≤ ·) := by decide
/-- A snapshot in zone A's view of 04, and the same under CHANGEOVER. -/
def viewOfA (mode : PlantMode) : ShareSnapshot :=
  { entries := [], online := true, silent := false, followed := some 9
    own := { zone.zoneRecord with wanted := .cool, demand := 70, qd := 20, relief := 0 }
    source := some { plant.plantRecord with mode, qb := 48 } }
theorem test_own_record_copied : (viewOfA .cool).own.counted.qd = roomA.qd ∧
    (zone.beginShare.share.flight.map fun f => f.snapshot.own) = some zone.zoneRecord ∧
    (plant.beginPlant.plant.flight.map fun f => f.own) = some plant.plantRecord := by decide
theorem witness_zone_position : ∀ m, (viewOfA m).online = true ∧ (viewOfA m).silent = false ∧
    (viewOfA m).source = some { plant.plantRecord with mode := m, qb := 48 } ∧
    ({ plant.plantRecord with mode := m, qb := 48 } : PlantRecord).phases.defrost = false ∧
    ({ plant.plantRecord with mode := m, qb := 48 } : PlantRecord).mode = m := by
  intro m
  cases m <;> decide
/-- The plant's bypass with air left over, with none, and with no bypass fitted. -/
theorem witness_bypass :
    ({ viewOfA .cool with entries := [zoneEntry 8 70] } : ShareSnapshot).source =
      some { plant.plantRecord with mode := .cool, qb := 48 } ∧
    ((viewOfA .cool).source.map fun r => r.qb) = some 48 ∧
    (termsOf .cool 48 [roomA]).pool = 34 ∧ bypassTarget installed 34 = (some 1000, 1200) ∧
    installed.qbp ≠ 0 ∧ ({ installed with qbp := 0 } : Config.Product).qbp = 0 := by
  decide
theorem witness_alignment : zone.held = false ∧ zone.drive.state = .unhomed ∧
    zone.drive.aligned = true ∧ (homing 0).drive.aligned = true ∧ (moving 755 756).drive.aligned = false ∧
    zone.drive.alignment = .running 100 ∧ (resting 756).drive.settle = .running 10200 := by decide
theorem witness_homing : (homing 1319).held = false ∧ (homing 1319).drive.state = .homing ∧
    (homing 1319).drive.step = .running 10005 ∧ 1319 ≤ (homing 1319).drive.homingSteps ∧
    (homing 1318).drive.homingSteps < 1319 := by decide
/-- An opening and a closing move; the last step of each; the 23rd step at a stuck end-stop; a close
within and beyond 24 steps of the end-stop. -/
theorem witness_move : ∀ m ∈ [moving 755 756, moving 26 0, moving 25 0, moving 1 0, moving 757 756],
    m.held = false ∧ m.drive.state = .moving ∧ m.drive.count.isSome = true ∧
    m.drive.count ≠ some m.drive.target ∧ m.drive.step = .running 10005 ∧ m.drive.stuckSteps < 24 := by
  decide
theorem witness_move_limits :
    (driven (moving 30 60) fun d => { d with stuckSteps := 23 }).drive.stuckSteps = 23 ∧
    (driven (moving 1 0) fun d => { d with sinceStop := 23 }).drive.sinceStop < 24 ∧
    24 ≤ (driven (moving 1 0) fun d => { d with sinceStop := 24 }).drive.sinceStop ∧
    (moving 30 60).drive.stallCount = 0 ∧
    (driven (moving 30 60) fun d => { d with stallCount := 1 }).drive.stallCount ≠ 0 := by decide
def held (s : State) : State := driven s fun d => { d with hold := .running 600000 }
theorem witness_hold_ends : ∀ s ∈ [held (resting 1200), held (resting 756),
      driven (held (resting 756)) fun d => { d with rehomeDue := true }, held faulted,
      held (moving 755 756), held (moving 1200 756)],
    s.held = false ∧ s.drive.hold = .running 600000 ∧ s.share.standing = 1200 := by decide
/-- A hold's end at a drive that moves: elsewhere, at the standing position, and at a close beyond 24
steps of the end-stop. -/
theorem witness_hold_ends_moving : (held (moving 755 756)).drive.state = .moving ∧
    (held (moving 755 756)).drive.count ≠ some 1200 ∧ (held (moving 1200 756)).drive.count = some 1200 ∧
    ({ held (moving 0 756) with share := { zone.share with standing := 0 } } : State).drive.count = some 0 ∧
    24 < (held (moving 0 756)).drive.sinceStop := by decide

/-! The plant sequencer. -/

theorem witness_plant_timer : plant.held = false ∧ plant.role = .plant ∧
    plant.plant.timer = .running 15000 ∧ plant.plant.flight = none ∧ plant.share.flight = none := by decide
theorem witness_sequencer_timers :
    (running .heat (.running 11000) (.running 11000)).held = false ∧
    (running .heat (.running 11000) (.running 11000)).role = .plant ∧
    (running .heat (.running 11000) (.running 11000)).plant.arb.minOn = .running 11000 ∧
    (running .heat (.running 11000) (.running 11000)).plant.arb.dwell = .running 11000 ∧
    plant.plant.arb.minOff = .running 180000 ∧ paused.plant.arb.pause = .running 12000 ∧
    paused.plant.arb.minOff ≠ .stopped ∧
    (protecting fun p => { p with frostTimer := .running 12000 }).plant.prot.frostTimer =
      .running 12000 ∧
    (protecting fun p => { p with tripTimer := .running 12000 }).plant.prot.tripTimer = .running 12000 ∧
    (protecting fun p => { p with overlong := .running 12000 }).plant.prot.overlong = .running 12000 := by
  decide
theorem witness_reckoning : ∃ f, (plantComputing plant).held = false ∧
    (plantComputing plant).plant.flight = some f ∧ f.phase = .computing ∧ f.void = false ∧
    f.online = true ∧ f.outdoorFault = false ∧ f.arb.frostLockout = false ∧ f.arb.mode = .idle ∧
    f.arb.minOff.isRunning = true ∧ f.prot.guard = false :=
  ⟨_, rfl, rfl, rfl, rfl, rfl, rfl, rfl, rfl, rfl, rfl⟩
/-- The sums at the limits of the tests: a start at 20, a changeover above the margin. -/
theorem witness_reckoning_sums :
    wantedSum [newEntry 8 (.zone (ZoneRecord.ofBody (announceBody 1 20 1 20 0)))] .heat = 20 ∧
    wantedSum [zoneEntry 8 100, zoneEntry 16 1] .cool = 0 + Config.defaults.margin + 1 ∧
    wantedSum [] .heat = 0 := by decide
theorem witness_reckoning_others :
    (plantComputing (station .plant .listen)).plant.flight.map PlantFlight.online = some false ∧
    (plantComputing (running .heat .expired .expired)).plant.flight.map (fun f =>
      (f.arb.mode, f.arb.minOn, f.arb.dwell)) = some (.heat, .expired, .expired) ∧
    (plantComputing (running .lockout .stopped .stopped)).plant.flight.map (fun f =>
      (f.arb.mode, f.arb.minOff == .expired)) = some (.lockout, false) ∧
    ((plantComputing plant).plant.flight.map PlantFlight.makeVoid).map PlantFlight.void = some true := by
  decide

/-- A pause over with a start's sums, a switch of the cool side, and a run held. -/
theorem witness_reckoning_cool_side :
    (plantComputing (running .cool .expired .expired)).plant.flight.map (fun f =>
      (f.arb.mode, f.arb.minOn, f.arb.dwell)) = some (.cool, .expired, .expired) ∧
    (plantComputing { paused with plant := { paused.plant with arb :=
      { paused.plant.arb with pause := .stopped, minOff := .expired } } }).plant.flight.map (fun f =>
        (f.arb.mode, f.arb.pause)) = some (.changeover, .stopped) ∧
    (plantComputing (running .heat (.running 11000) .expired)).plant.flight.map (fun f =>
      f.arb.minOn.isRunning) = some true := by decide
theorem witness_air : ∃ f, (plantComputing plant).held = false ∧ (plantComputing plant).PlantWf ∧
    (plantComputing plant).plant.flight = some f ∧ f.phase = .computing ∧ f.void = false ∧
    f.online = true := by
  refine ⟨_, rfl, ⟨?_, ?_, ?_, ?_, ?_, ?_⟩, rfl, ?_, ?_, ?_⟩ <;> decide
theorem witness_air_running : ∀ m ∈ [PlantMode.heat, .cool, .dry],
    (plantComputing (running m .expired .expired)).held = false ∧
    (plantComputing (running m .expired .expired)).plant.arb.wf ∧
    (plantComputing (running m .expired .expired)).plant.prot.wf m ∧
    (plantComputing (running m .expired .expired)).plant.air.wf Config.defaults m := by decide

/-- What a plant reckoning notes of a cool side before a trip, in a trip whose timer is out on a thawed
coil, and of a HEAT with DEFROST ACTIVE before a phase. -/
theorem witness_protection :
    (plantComputing (protecting fun p =>
      { p with coilCold := true, coilFrozen := true, guard := true, frostTimer := .expired,
               tripCount := 2 })).plant.flight.map (fun f =>
        (f.phase, f.void, f.arb.mode, f.prot.trip, f.prot.frostTimer, f.prot.coilFrozen, f.prot.guard)) =
      some (.computing, false, .cool, false, .expired, true, true) ∧
    (plantComputing (protecting fun p =>
      { p with coilThawed := true, trip := true, tripTimer := .expired })).plant.flight.map (fun f =>
        (f.prot.trip, f.prot.tripTimer, f.prot.coilThawed)) = some (true, .expired, true) ∧
    (plantComputing { running .heat .expired .expired with sensing :=
      { plant.sensing with contact1 := { plant.sensing.contact1 with active := true } } }).plant.flight.map
        (fun f => (f.arb.mode, f.defrostActive, f.prot.defrost)) = some (.heat, true, false) :=
  ⟨rfl, rfl, rfl⟩

/-! The line. -/

theorem witness_frame_bytes : zone.held = false ∧ (announceOf 16 40).body.length ≤ 32 ∧
    bytesOnLine (run (announceOf 16 40).bytes) (announceOf 16 40).bytes ∧ zone.line.assembly = [] ∧
    zone.line.sending = none ∧ (announceOf 16 40).dest.toNat = 0 ∧
    (query [3]).dest.toNat = zone.address ∧ (frame 9 16 0x11 [0]).dest.toNat ≠ 0 ∧
    (frame 9 16 0x11 [0]).dest.toNat ≠ zone.address ∧ zone.line.pair.length < 2 ∧
    2 ≤ ({ zone with line := { zone.line with pair := [announceOf 8 1, announceOf 9 1] } } :
      State).line.pair.length := by
  refine ⟨?_, ?_, ⟨?_, ?_, ?_⟩, ?_, ?_, ?_, ?_, ?_, ?_, ?_, ?_⟩ <;> decide
/-- The echo of a RESULT in flight, and a received frame that is not it. -/
theorem witness_echo :
    (queued zone [flying (reply .result)]).line.sending = some (flying (reply .result)) ∧
    ((queued zone []).frameOf (flying (reply .result))).body.length ≤ 32 ∧
    bytesOnLine (run ((queued zone []).frameOf (flying (reply .result))).bytes)
      ((queued zone []).frameOf (flying (reply .result))).bytes ∧
    (queued zone []).frameOf (flying (reply .result)) ≠ announceOf 16 40 ∧
    (queued zone [flying (reply .result)]).line.queue = [] ++ flying (reply .result) :: [] ∧
    (queued zone [flying (reply .result)]).line.echoed = 0 ∧ (flying (reply .result)).lost < 15 := by
  refine ⟨?_, ?_, ⟨?_, ?_, ?_⟩, ?_, ?_, ?_, ?_⟩ <;> decide
theorem witness_longest_frame : (frame 0 16 0x42 (List.replicate 32 7)).body.length = 32 ∧
    bytesOnLine (run (frame 0 16 0x42 (List.replicate 32 7)).bytes)
      (frame 0 16 0x42 (List.replicate 32 7)).bytes := by
  refine ⟨?_, ⟨?_, ?_, ?_⟩⟩ <;> decide
theorem witness_bad_frames : zone.held = false ∧ 32 < (33 : Byte).toNat ∧
    bytesOnLine (run [0xC3, 0, 9, 0x20, 33]) [0xC3, 0, 9, 0x20, 33] ∧
    bytesOnLine (run [0xC3, 0, 9]) [0xC3, 0, 9] ∧ zone.line.assembly = [] ∧ zone.line.sending = none := by
  refine ⟨?_, ?_, ⟨?_, ?_, ?_⟩, ⟨?_, ?_, ?_⟩, ?_, ?_⟩ <;> decide
/-- Wrong check bytes, a run without a lead, a line in space, and idle before a byte in error. -/
theorem witness_bad_check :
    bytesOnLine (run ((announceOf 16 40).bytes.take (5 + (announceOf 16 40).body.length) ++ [0, 0]))
      ((announceOf 16 40).bytes.take (5 + (announceOf 16 40).body.length) ++ [0, 0]) ∧
    [0, 0] ≠ (announceOf 16 40).bytes.drop (5 + (announceOf 16 40).body.length) := by
  refine ⟨⟨?_, ?_, ?_⟩, ?_⟩ <;> decide
theorem witness_ignored : (∀ b ∈ run [0, 0xC3, 5], b.idleBits < 20 ∨ b.value ≠ 0xC3) ∧
    run [0, 0xC3, 5] ≠ [] ∧ (after (.framingError 21 true) zone).line.idle = false ∧
    (after (.framingError 21 true) zone).line.sending = none ∧
    (after (.framingError 20 false) zone).line.idle = true ∧
    (after (.framingError 21 true) zone).line.space = true ∧
    (∀ b ∈ (run [0, 0xC3, 5]).head?, 0 < b.idleBits) := by decide
/-- R158: a line held in space gives one framing error, however long it stays there. -/
theorem test_held_in_space :
    (after (.framingError 0 true) (after (.framingError 0 true) zone)).line.counters.framing = 1 ∧
    (after (.framingError 1 true) (after (.framingError 0 true) zone)).line.counters.framing = 2 := by
  decide
/-- A RESULT behind an entry of a lower urgency and before another of its own: the head in the middle. -/
def mixed : List TxEntry := [reply .result, reply .present, reply .present]
theorem witness_attempt : (waiting 7 mixed).held = false ∧ (waiting 7 mixed).line.stuck = false ∧
    (waiting 7 mixed).line.wait = some 7 ∧ (waiting 7 mixed).line.assembly = [] ∧
    (waiting 7 mixed).line.queue = [reply .result] ++ reply .present :: [reply .present] ∧
    (∀ y ∈ (waiting 7 mixed).line.queue, y.inFlight = false) ∧
    (∀ y ∈ [reply .result], (reply .present).kind.urgency < y.kind.urgency) ∧
    (∀ y ∈ [reply .present], (reply .present).kind.urgency ≤ y.kind.urgency) ∧
    10 * (3 + (reply .present).kind.urgency + 7) = 100 := by decide
theorem witness_attempt_in_assembly :
    ({ (waiting 7 mixed).line with assembly := [0xC3] } : Line).assembly ≠ [] ∧
    ({ (waiting 7 mixed).line with assembly := [0xC3] } : Line).wait = some 7 := by decide
/-- An entry of each kind in flight, with another behind it. -/
theorem witness_in_flight : ∀ k ∈ [TxKind.rollCall, .announce, .plantStatus, .present, .setpointReply,
      .result],
    (queued zone [flying (reply k), reply .result]).held = false ∧
    (queued zone [flying (reply k), reply .result]).line.queue =
      [] ++ flying (reply k) :: [reply .result] ∧
    (flying (reply k)).inFlight = true ∧
    ∀ y ∈ ([] : List TxEntry) ++ [reply .result], y.inFlight = false := by decide
theorem witness_owner_told :
    (flying (reply .result .restart)).use = .restart ∧
    ({ zone with responder := { dump := none, waiting := [{ done := true, dumpEnd := false }] } } :
      State).responder.waiting = [{ done := true, dumpEnd := false }] ∧
    (flying (reply .result (.dump false))).use = .dump false ∧
    (dumping zone (dumpAt 5 1 23 false)).responder.dump = some (dumpAt 5 1 23 false) := by decide
theorem witness_lost : (flying (reply .result)).lost < 15 ∧
    14 < ({ flying (reply .rollCall) with lost := 15 } : TxEntry).lost ∧
    (station .zone .claim).member.station = .claim := by decide
/-- The places of a 10-byte frame: the first, the last, one beyond it, and one in mid-echo. -/
theorem witness_lost_places :
    (zone.frameOf (flying (reply .result))).bytes[0]? = some 0xC3 ∧
    (zone.frameOf (flying (reply .result))).bytes.length = 10 ∧
    ((zone.frameOf (flying (reply .result))).bytes[4 + 5]?).isSome = true ∧
    (zone.frameOf (flying (reply .result))).bytes[10]? = none := by decide
theorem witness_stuck : zone.held = false ∧ zone.line.stuck = false ∧
    (after .stuck (queued zone [reply .result])).held = false ∧
    (after .stuck (queued zone [reply .result])).line.stuck = true ∧
    (after .stuck (queued zone [reply .result])).line.queue ≠ [] ∧
    (after .stuck (queued zone [reply .result])).line.sending = none ∧
    (after (.framingError 0 true) zone).line.space = true ∧ zone.line.space = false := by decide

/-! The invariants: an online zone and an online plant are coherent, and each has a step. -/

theorem witness_table_wf : (withTable zone staleTable).TableWf ∧ (withTable plant fullTable).TableWf := by
  decide
theorem witness_station_wf : zone.StationWf ∧ plant.StationWf ∧
    (after (.startEnd []) State.reset).StationWf ∧
    (after (.startEnd []) State.reset).member.station = .unaddressed := by decide
theorem witness_line_wf : (waiting 7 mixed).address ≤ 63 ∧ (waiting 7 mixed).LineWf ∧
    (queued zone [flying (reply .result)]).address ≤ 63 ∧
    ({ queued zone [flying (reply .result)] with line :=
      { (queued zone [flying (reply .result)]).line with echoed := 9 } } : State).LineWf := by decide
theorem witness_setpoints_demand_wf : zone.SetpointsWf ∧ zone.DemandWf :=
  ⟨by decide, by decide⟩
theorem witness_sensing_wf : losing.SensingWf ∧ plant.SensingWf ∧ zone.address ≤ 63 := by
  refine ⟨⟨?_, ?_⟩, ⟨?_, ?_⟩, ?_⟩ <;> decide
theorem witness_drive_wf : (moving 58 0).DriveWf ∧ (homing 0).DriveWf ∧ (resting 756).DriveWf ∧ faulted.DriveWf :=
  ⟨by decide, by decide, by decide, by decide⟩
theorem witness_plant_wf : plant.PlantWf := by
  refine ⟨?_, ?_, ?_, ?_, ?_, ?_⟩ <;> decide
theorem witness_reckoning_wf : (shareComputing (withTable zone staleTable)).TableWf ∧
    (shareComputing (withTable zone staleTable)).ReckoningWf := by decide
theorem witness_next : (∃ t, step { zone with pending := [.agingExpiry] } = .next t) ∧
    ∃ t, step { plant with pending := [.plantTimerExpiry] } = .next t := ⟨⟨_, rfl⟩, ⟨_, rfl⟩⟩

end Sys2Proof.Tests
end

