-- ==== Sys2Proof/Proofs/Tabling.lean ====
section
/-! PROOF. How a tabled frame reaches the peer table, and what its admission does there (R13, R15,
R18). -/

namespace Sys2Proof.Machine

/-! ### From the frame handler to the table (R13, R23, R164) -/

/-- Past START the frame handler takes a frame at the front that the event names. -/
theorem State.takeFrame_atFront {s : State} {f : Frame} {rest : List Frame} (h : s.atFront f rest)
    (hs : s.member.station ≠ .start) {named : Frame → Bool} (hn : named f = true)
    (act : Frame → State → State) : s.takeFrame named act = act f (s.taken rest) := by
  have taken : s.taken rest = s.onLine fun l => { l with pair := rest } := rfl
  simp [State.takeFrame, s.take_running _ h.running, h.free, h.front, hn, hs, taken]

/-- A frame of another station is tabled at once while no snapshot occupies the table. -/
theorem State.handRecord_tabled {s : State} {f : Frame}
    (hf : f.src.toNat ≠ 0 ∧ f.src.toNat ≠ s.address) (ho : s.occupied = false) :
    s.handRecord f = s.tableRecord f.src.toNat f.record := by
  simp [State.handRecord, State.fromOwn, hf, ho]

/-- A waiting write is applied once no snapshot occupies the table. -/
theorem State.applyWaitingWrite_current {s : State} {f : Frame} (hc : s.line.current = some f)
    (ho : s.occupied = false) : s.applyWaitingWrite =
      (s.onLine fun l => { l with current := none }).tableRecord f.src.toNat f.record := by
  simp [State.applyWaitingWrite, hc, ho]

/-- Each command that writes a frame to the table hands its record to the table, on a state changed
in the receive side of the line alone. -/
theorem exec_of_writesTable {c : Instr} {f : Frame} {s : State} (h : writesTable c f s) :
    ∃ pair current, exec c s = .next
      (({ s with line := { s.line with pair, current } } : State).tableRecord f.src.toNat
        f.record) := by
  have heard (rest : List Frame) (hc : s.line.current = none) (hp : s.line.pair = f :: rest)
      (named : Frame → Bool) (hn : named f = true) :
      s.takeFrame named (fun f t => t.handRecord f) =
        (s.taken rest).tableRecord f.src.toNat f.record := by
    rw [State.takeFrame_atFront ⟨h.running, hc, hp⟩ h.started hn]
    exact State.handRecord_tabled h.source h.free
  rcases h.how with ⟨hc, ⟨rest, hp⟩, ⟨rfl, hk⟩ | ⟨rfl, hk⟩⟩ | ⟨rfl, hc, -⟩
  · exact ⟨rest, s.line.current, congrArg _ (heard rest hc hp _ hk)⟩
  · exact ⟨rest, s.line.current, congrArg _ (heard rest hc hp _ hk)⟩
  · have waited := (s.take_running _ h.running).trans (State.applyWaitingWrite_current hc h.free)
    exact ⟨s.line.pair, none, congrArg _ waited⟩

/-! ### Admission (R15) -/

theorem findEntry_eq_none {table : List Entry} {a : Nat} (h : ∀ e ∈ table, e.address ≠ a) :
    findEntry table a = none := by
  simpa [findEntry] using h

/-- A record from an address without an entry is admitted while the table has room. -/
theorem State.tableRecord_of_room {s : State} {a : Nat} (r : Record)
    (hnew : ∀ e ∈ s.member.table, e.address ≠ a) (hroom : s.member.table.length < 24) :
    s.tableRecord a r = s.tableBecomes (admitEntry s.member.table (newEntry a r)) true := by
  simp [State.tableRecord, findEntry_eq_none hnew, Config.tableRoom, hroom]

theorem chain_append (t u : List Entry) (k : Nat) : chain (t ++ u) k = chain t k ++ chain u k :=
  List.filter_append t u

theorem chain_cons_same (e : Entry) (table : List Entry) :
    chain (e :: table) (chainOf e.address) = e :: chain table (chainOf e.address) := by
  simp [chain]

theorem chain_cons_other {e : Entry} {k : Nat} (h : k ≠ chainOf e.address) (table : List Entry) :
    chain (e :: table) k = chain table k := by
  simp [chain, h.symm]

theorem chain_filter_whole {k : Nat} {p : Entry → Bool}
    (h : ∀ x : Entry, chainOf x.address = k → p x = true) (table : List Entry) :
    chain (table.filter p) k = chain table k := by
  simp only [chain, List.filter_filter]
  exact List.filter_congr fun x _ => by by_cases hx : chainOf x.address = k <;> simp [hx, h x]

theorem chain_filter_none {k : Nat} {p : Entry → Bool}
    (h : ∀ x : Entry, chainOf x.address = k → p x = false) (table : List Entry) :
    chain (table.filter p) k = [] := by
  simp only [chain, List.filter_filter, List.filter_eq_nil_iff]
  intro x _
  by_cases hx : chainOf x.address = k <;> simp [hx, h x]

/-- The part of the table in front of the new entry holds its chain whole, the part behind it nothing
of the chain. -/
theorem chain_admitEntry_same (table : List Entry) (e : Entry) :
    chain (admitEntry table e) (chainOf e.address) = chain table (chainOf e.address) ++ [e] := by
  rw [admitEntry, chain_append, chain_cons_same, chain_filter_whole (fun x hx => by simp [hx]),
    chain_filter_none (fun x hx => by simp [hx])]

/-- Another chain lies whole in one of the two parts. -/
theorem chain_admitEntry_other (table : List Entry) (e : Entry) {k : Nat}
    (h : k ≠ chainOf e.address) : chain (admitEntry table e) k = chain table k := by
  rw [admitEntry, chain_append, chain_cons_other h]
  rcases Nat.lt_or_gt_of_ne h with inFront | behind
  · rw [chain_filter_whole (fun x hx => by simp [hx, inFront.le]),
      chain_filter_none (fun x hx => by simp [hx, inFront.le]), List.append_nil]
  · rw [chain_filter_none (fun x hx => by simp [hx, behind]),
      chain_filter_whole (fun x hx => by simp [hx, behind]), List.nil_append]

/-! ### The membership-change event (R18) -/

theorem toldShare_of_share_eq {s s' t t' : State} (hs : s'.share = s.share) (ht : t'.share = t.share)
    (h : toldShare s t) : toldShare s' t' := by
  unfold toldShare at h ⊢
  rwa [hs, ht]

theorem toldPlant_of_plant_eq {s s' t t' : State} (hs : s'.plant = s.plant)
    (hf : t'.plant.flight = t.plant.flight) (hm : t'.plant.mark = t.plant.mark)
    (h : toldPlant s t) : toldPlant s' t' := by
  unfold toldPlant at h ⊢
  rwa [hs, hf, hm]

/-- The membership-change event reaches the share unit, whatever the plant sequencer makes of it. -/
theorem State.membershipChange_toldShare (s : State) : toldShare s s.membershipChange := by
  obtain ⟨g, n, h⟩ := s.shareTrigger.plantTrigger_frame
  refine toldShare_of_share_eq rfl ?_ s.shareTrigger_told
  rw [State.membershipChange, h]

/-- The membership-change event reaches the plant sequencer, in the plant role. -/
theorem State.membershipChange_toldPlant (s : State) (hr : s.role = .plant) :
    toldPlant s s.membershipChange := by
  obtain ⟨g, n, h⟩ := s.shareTrigger_frame
  have hr' : s.shareTrigger.role = .plant := by rw [h]; exact hr
  refine toldPlant_of_plant_eq ?_ rfl rfl (s.shareTrigger.plantTrigger_told hr')
  rw [h]

/-- A change of the table raises the event, and the prompt after it leaves both units. -/
theorem State.tableBecomes_told (s : State) (table : List Entry) :
    toldShare s (s.tableBecomes table true) ∧
      (s.role = .plant → toldPlant s (s.tableBecomes table true)) := by
  let u := s.onMember fun m => { m with table, followed := followedOf s.role table }
  obtain ⟨l, a, b, h⟩ := u.membershipChange.promptFlags_frame s
  have ht : s.tableBecomes table true = u.membershipChange.promptFlags s := rfl
  rw [ht, h]
  exact ⟨toldShare_of_share_eq rfl rfl u.membershipChange_toldShare,
    fun hr => toldPlant_of_plant_eq rfl rfl rfl (u.membershipChange_toldPlant hr)⟩

/-- In the membership unit a change of the table reaches the table and the followed plant alone, and
beyond it only the blocks that the event and the prompt reach. -/
theorem State.tableBecomes_keeps (s : State) (table : List Entry) (changed : Bool) :
    let t := s.tableBecomes table changed
    t.member = { s.member with table, followed := t.member.followed } ∧
      t = { s with
        member := t.member, line := t.line, share := t.share, demand := t.demand,
        plant := t.plant } := by
  obtain ⟨o, f, m, g, n, l, a, b, h⟩ := s.tableBecomes_frame table changed
  simp only [h, and_self]

/-- Settles O11: the write reaches `tableBecomes` with the new entry admitted, whose chains, event and
frame are the lemmas above. -/
theorem newPeerIsAdmittedAtTheTail : Obligations.NewPeerIsAdmittedAtTheTail := by
  intro c f s hw hnew hroom
  obtain ⟨pair, current, hexec⟩ := exec_of_writesTable hw
  let s' : State := { s with line := { s.line with pair, current } }
  let e := newEntry f.src.toNat f.record
  rw [State.tableRecord_of_room (s := s') _ hnew hroom] at hexec
  obtain ⟨share, plant⟩ := s'.tableBecomes_told (admitEntry s.member.table e)
  obtain ⟨member, frame⟩ := s'.tableBecomes_keeps (admitEntry s.member.table e) true
  refine ⟨_, hexec, ?_, fun k hk => ?_, ?_, fun hr => ?_, ?_, frame⟩
  · rw [member]
    exact chain_admitEntry_same s.member.table e
  · rw [member]
    exact chain_admitEntry_other s.member.table e hk
  · exact toldShare_of_share_eq rfl rfl share
  · exact toldPlant_of_plant_eq rfl rfl rfl (plant hr)
  · rw [member]

end Sys2Proof.Machine
end

