-- ==== Sys2Proof/Proofs/DemandFigures.lean ====
section
/-! PROOF. The effective setpoints stay 20 tenths apart, and each demand figure stands only beyond its
own (R43 to R45). -/

namespace Sys2Proof.Machine

/-- The setback in force is never negative, so it only moves the setpoints apart (R43). -/
theorem State.setbackNow_nonneg {s : State} (h : productWf s.cfg) : 0 ≤ s.setbackNow := by
  obtain ⟨-, -, -, -, -, -, -, -, -, -, -, -, ⟨setback, -⟩, -⟩ := h
  unfold State.setbackNow
  split
  · exact setback
  · exact le_rfl

/-- The effective setpoints keep the distance of the figures they come from (R34, R43). -/
theorem State.heatEff_add_le_coolEff {s : State} (h : s.SetpointsWf) :
    s.heatEff + 20 ≤ s.coolEff := by
  obtain ⟨product, ⟨-, -, apart, -⟩, -⟩ := h
  have setback := State.setbackNow_nonneg product
  calc s.heatEff + 20 = s.setpoints.figures.heat + 20 - s.setbackNow := by
        unfold State.heatEff; omega
    _ ≤ s.setpoints.figures.cool + s.setbackNow := by omega

/-- A setpoint that is not passed asks for nothing: the division truncates towards zero (R44). -/
theorem demandOf_of_nonpos {beyond : Int} (h : beyond ≤ 0) (band : Nat) : demandOf beyond band = 0 := by
  have mirrored : 0 ≤ (-(beyond * 100)).tdiv band :=
    Int.tdiv_nonneg (by omega) (Int.natCast_nonneg band)
  rw [Int.neg_tdiv] at mirrored
  unfold demandOf clampInt
  omega

/-- A demand above zero stands only beyond its setpoint. -/
theorem beyond_pos_of_demandOf_pos {beyond : Int} {band : Nat} (h : 0 < demandOf beyond band) :
    0 < beyond := by
  by_contra hn
  exact h.ne' (demandOf_of_nonpos (not_lt.mp hn) band)

/-- The heat demand that is formed: none from a channel that is not USABLE (R44). -/
theorem State.formDemands_dHeat (s : State) : s.formDemands.demand.dHeat =
    if s.sensing.first.usable then
      demandOf (s.heatEff - s.sensing.first.filtered.getD 0) s.cfg.band
    else 0 := rfl

/-- The cool demand that is formed: none from a channel that is not USABLE (R44). -/
theorem State.formDemands_dCool (s : State) : s.formDemands.demand.dCool =
    if s.sensing.first.usable then
      demandOf (s.sensing.first.filtered.getD 0 - s.coolEff) s.cfg.band
    else 0 := rfl

/-- D_heat above zero: the room is colder than SPh_eff (R44). -/
theorem State.lt_heatEff_of_dHeat_pos {s : State} (h : 0 < s.formDemands.demand.dHeat) :
    s.sensing.first.filtered.getD 0 < s.heatEff := by
  rw [State.formDemands_dHeat] at h
  split at h
  · exact sub_pos.mp (beyond_pos_of_demandOf_pos h)
  · exact absurd h (lt_irrefl 0)

/-- D_cool above zero: the room is warmer than SPc_eff (R44). -/
theorem State.coolEff_lt_of_dCool_pos {s : State} (h : 0 < s.formDemands.demand.dCool) :
    s.coolEff < s.sensing.first.filtered.getD 0 := by
  rw [State.formDemands_dCool] at h
  split at h
  · exact sub_pos.mp (beyond_pos_of_demandOf_pos h)
  · exact absurd h (lt_irrefl 0)

/-- Settles O28: both demands would put the room below SPh_eff and above SPc_eff at once, which lies
higher. -/
theorem heatAndCoolDemandNeverTogether : Obligations.HeatAndCoolDemandNeverTogether := by
  intro s hs
  have apart := State.heatEff_add_le_coolEff hs
  refine ⟨apart, State.lt_heatEff_of_dHeat_pos, State.coolEff_lt_of_dCool_pos, ?_⟩
  rintro ⟨heat, cool⟩
  have colder := State.lt_heatEff_of_dHeat_pos heat
  have warmer := State.coolEff_lt_of_dCool_pos cool
  omega

end Sys2Proof.Machine
end

