-- ==== Sys2Proof/Proofs/CharacteristicTable.lean ====
section
/-! PROOF. What the configuration loader makes of the nine entries of the characteristic table (R187). -/

namespace Sys2Proof.Machine

/-- The loader's walk along neighbouring entries is the chain of the order. -/
theorem nonDecreasing_iff_isChain (table : List Nat) :
    nonDecreasing table = true ↔ table.IsChain (· ≤ ·) := by
  induction table using nonDecreasing.induct with
  | case1 => simp [nonDecreasing]
  | case2 => simp [nonDecreasing]
  | case3 a b rest ih => simp [nonDecreasing, ih]

/-- The entries held, each from its two bytes (R192). -/
theorem heldTable_eq_map_range (image : List Byte) :
    heldTable image = (List.range 9).map fun i => clampNat (nat2 image (1 + 2 * i)) 0 1200 :=
  List.map_map

/-- The test of R187 on the image's own bytes. -/
theorem nonDecreasing_heldTable_iff (image : List Byte) :
    nonDecreasing (heldTable image) = true ↔
      ∀ i < 8, clampNat (nat2 image (1 + 2 * i)) 0 1200 ≤
        clampNat (nat2 image (1 + 2 * (i + 1))) 0 1200 := by
  rw [nonDecreasing_iff_isChain, heldTable_eq_map_range, List.isChain_map, List.isChain_range_succ]

/-- Either role's part leaves the table of the role-independent part (R186). -/
theorem load_table {image : List Byte} (role : Role) (present : imagePresent image = true)
    (checked : imageChecked image = true) :
    (load role image).product.table = loadedTable image := by
  cases role <;> simp [load, present, checked, loadZone, loadPlant, loadCommon]

/-- A mark of the role-independent part stands whatever the role's own part finds (R186). -/
theorem load_clamped_of_common {image : List Byte} (role : Role) (present : imagePresent image = true)
    (checked : imageChecked image = true) (h : commonClamped image = true) :
    (load role image).clamped = true := by
  simp [load, present, checked, h]

/-- A table that decreases sets CONFIG CLAMPED (R187). -/
theorem commonClamped_of_decreasing {image : List Byte} (h : ¬ nonDecreasing (heldTable image) = true) :
    commonClamped image = true := by
  simp [commonClamped, h]

/-- Settles O6: the loader's test fails exactly if an entry lies below the one before it, and by that
test it keeps the entries held or puts the straight line in their place. -/
theorem decreasingTableIsReplacedWhole : Obligations.DecreasingTableIsReplacedWhole := by
  refine ⟨fun role image present checked => ⟨?replaced, ?kept⟩, by decide⟩
  case replaced =>
    rintro ⟨i, hi, smaller⟩
    have decreases : ¬ nonDecreasing (heldTable image) = true := fun h =>
      ((nonDecreasing_heldTable_iff image).mp h i hi).not_gt smaller
    exact ⟨(load_table role present checked).trans (if_neg decreases),
      load_clamped_of_common role present checked (commonClamped_of_decreasing decreases)⟩
  case kept =>
    intro rises
    have holds := (nonDecreasing_heldTable_iff image).mpr rises
    calc (load role image).product.table
        = loadedTable image := load_table role present checked
      _ = heldTable image := if_pos holds
      _ = _ := heldTable_eq_map_range image

end Sys2Proof.Machine
end

section
/-! PROOF. The loader's product lies in its ranges, and its marks say what was out of range (R185 to
R187, R192). -/

namespace Sys2Proof.Machine

theorem clampNat_mem {x lo hi : Nat} (h : lo ≤ hi) :
    lo ≤ clampNat x lo hi ∧ clampNat x lo hi ≤ hi := by
  unfold clampNat; omega

theorem clampInt_mem {x lo hi : Int} (h : lo ≤ hi) :
    lo ≤ clampInt x lo hi ∧ clampInt x lo hi ≤ hi := by
  unfold clampInt; omega

/-- A number held to a range is the same number as an integer held to it. -/
theorem clampNat_cast (x lo hi : Nat) : (clampNat x lo hi : Int) = clampInt x lo hi := by
  simp [clampNat, clampInt]

/-- The image is present and checked exactly if it is good (R185). -/
theorem image_accepted_iff (image : List Byte) :
    (imagePresent image && imageChecked image) = true ↔ imageGood image := by
  simp only [imagePresent, imageChecked, imageMark, Bool.and_eq_true, decide_eq_true_eq, beq_iff_eq,
    imageGood, Prod.ext_iff, and_assoc]
  tauto

theorem load_of_good {image : List Byte} (role : Role) (h : imageGood image) :
    load role image =
      { product :=
          match role with
          | .zone => loadZone image (loadCommon image Config.defaults)
          | .plant => loadPlant image (loadCommon image Config.defaults)
        fault := false
        clamped := commonClamped image || match role with
          | .zone => zoneClamped image
          | .plant => plantClamped image } :=
  if_pos ((image_accepted_iff image).mpr h)

theorem load_of_bad {image : List Byte} (role : Role) (h : ¬ imageGood image) :
    load role image = { product := Config.defaults, fault := true, clamped := false } :=
  if_neg fun k => h ((image_accepted_iff image).mp k)

/-! ### The ranges (R186, R187) -/

theorem productWf_defaults : productWf Config.defaults := by decide

theorem loadedTable_wf (image : List Byte) : (loadedTable image).length = 9 ∧
    (loadedTable image).Pairwise (· ≤ ·) ∧ ∀ t ∈ loadedTable image, t ≤ 1200 := by
  unfold loadedTable
  split_ifs with h
  · refine ⟨by simp [heldTable, imageTable], ?_, ?_⟩
    · exact List.isChain_iff_pairwise.mp ((nonDecreasing_iff_isChain _).mp h)
    · simp only [heldTable, List.mem_map]
      rintro _ ⟨x, -, rfl⟩
      exact (clampNat_mem (by omega)).2
  · decide

theorem productWf_load (role : Role) (image : List Byte) : productWf (load role image).product := by
  by_cases h : imageGood image
  · rw [load_of_good role h]
    obtain ⟨length, rises, table⟩ := loadedTable_wf image
    have nat {x lo hi : Nat} (h : lo ≤ hi) := clampNat_mem (x := x) h
    have int {x lo hi : Int} (h : lo ≤ hi) := clampInt_mem (x := x) h
    cases role
    · refine ⟨length, rises, table, (nat (by omega)).2, nat (by omega), (nat (by omega)).2,
        nat (by omega), nat (by omega), (nat (by omega)).2, int (by omega), int (by omega), ?_⟩
      have humidity := nat (x := nat1 image 32) (lo := 35) (hi := 70) (by omega)
      have setback := nat (x := nat1 image 33) (lo := 0) (hi := 60) (by omega)
      have span := nat (x := nat1 image 35) (lo := 0) (hi := 30) (by omega)
      simp [loadZone, loadCommon, Config.defaults] at *
      omega
    · have qmax := nat (x := nat2 image 38) (lo := 20) (hi := 400) (by omega)
      have upToQmax (x : Nat) := nat (x := x) (lo := 4) (hi := loadedQmax image)
        (by unfold loadedQmax; omega)
      obtain ⟨-, -, -, -, qd, relief, weight, band, posMin, heat, cool, humidity, setback, span, -⟩ :=
        productWf_defaults
      exact ⟨length, rises, table, (nat (by omega)).2, qd, relief, weight, band, posMin, heat, cool,
        humidity, setback, span, qmax, upToQmax _, upToQmax _, upToQmax _, upToQmax _, nat (by omega),
        nat (by omega), nat (by omega), nat (by omega), (nat (by omega)).2⟩
  · rw [load_of_bad role h]
    exact productWf_defaults

/-! ### The mark CONFIG CLAMPED (R186, R187) -/

theorem outside_iff (v lo hi : Nat) : outside v lo hi = true ↔ v ∉ Set.Icc lo hi := by
  simp [outside]; omega

theorem outsideInt_iff (v lo hi : Int) : outsideInt v lo hi = true ↔ v ∉ Set.Icc lo hi := by
  simp [outsideInt]; omega

theorem notMem_Icc_zero_iff (v hi : Nat) : v ∉ Set.Icc 0 hi ↔ hi < v := by simp

/-- A field whose range begins at 0 is out of it above its end. -/
theorem outside_zero_iff (v hi : Nat) : outside v 0 hi = true ↔ hi < v := by
  simp [outside]

theorem commonClamped_iff (image : List Byte) :
    commonClamped image = true ↔ commonOutside image := by
  have table : (imageTable image).any (fun t => outside t 0 1200) = true ↔
      ∃ i, i < 9 ∧ 1200 < nat2 image (1 + 2 * i) := by
    simp [imageTable, outside_zero_iff]
  have falls : (!nonDecreasing (heldTable image)) = true ↔ ∃ i, i < 8 ∧
      clampNat (nat2 image (1 + 2 * (i + 1))) 0 1200 < clampNat (nat2 image (1 + 2 * i)) 0 1200 := by
    rw [Bool.not_eq_true', ← Bool.not_eq_true, nonDecreasing_heldTable_iff]
    push Not
    rfl
  rw [commonClamped, Bool.or_eq_true, Bool.or_eq_true, table, falls, outside_zero_iff, or_assoc]
  rfl

theorem zoneClamped_iff (image : List Byte) : zoneClamped image = true ↔ zoneOutside image := by
  simp only [zoneClamped, Bool.or_eq_true, outside_iff, outsideInt_iff, notMem_Icc_zero_iff,
    or_assoc]
  rfl

theorem plantClamped_iff (image : List Byte) : plantClamped image = true ↔ plantOutside image := by
  simp only [plantClamped, Bool.or_eq_true, outside_iff, notMem_Icc_zero_iff, plantOutside, loadedQmax,
    List.mem_cons, List.not_mem_nil, or_false, exists_eq_or_imp, exists_eq_left, or_assoc]

/-- Settles O5: the ranges are those of each field held, the marks those of the tests of the three
parts. -/
theorem loadedProductIsInRange : Obligations.LoadedProductIsInRange := by
  refine ⟨productWf_load, fun role image bad => ?bad, fun image good => ?zone, fun image good => ?plant⟩
  case bad =>
    have rejected : ¬ imageGood image := by
      rintro ⟨length, mark, sums⟩
      rcases bad with h | h | h
      · omega
      · exact h mark
      · exact h sums
    rw [load_of_bad role rejected]
    exact ⟨rfl, rfl, rfl⟩
  case zone =>
    rw [load_of_good .zone good]
    refine ⟨rfl, ?_, ?_⟩
    · simp [loadZone, loadCommon, onOff, clampNat_cast]
    · simp only [Bool.or_eq_true, commonClamped_iff, zoneClamped_iff]
  case plant =>
    rw [load_of_good .plant good]
    refine ⟨rfl, rfl, ?_⟩
    simp only [Bool.or_eq_true, commonClamped_iff, plantClamped_iff]

end Sys2Proof.Machine
end

section
/-! PROOF. The footprint of every operation and of every command: which items of the state it can
change. -/

namespace Sys2Proof.Machine

/-- The items of the state that a footprint tells apart. -/
inductive Item where
  /-- `held`, the straps, the configuration with its marks, the start timer, the waiting commands. -/
  | fixed
  | clock
  | station
  | stationTimers
  | aging
  | roster
  | waits
  | memberLatches
  | restarts
  | channels
  | contacts
  | sample
  | setpoints
  | demand
  | announcer
  | shareFlight
  | shareResult
  | drive
  | plantFlight
  | sequencer
  | plantTimer
  | unplaced
  | current
  | pair
  | latches
  | counters
  /-- The rest of the line controller: the assembler, the queue and its timing. -/
  | wire
  | responder
  deriving DecidableEq

/-- Two states agree on an item. -/
def Item.same (s t : State) : Item → Prop
  | .fixed => t.held = s.held ∧ t.role = s.role ∧ t.address = s.address ∧ t.cfg = s.cfg ∧
      t.configFault = s.configFault ∧ t.configClamped = s.configClamped ∧
      t.startTimer = s.startTimer ∧ t.pending = s.pending
  | .clock => t.now = s.now
  | .station => t.member.station = s.member.station
  | .stationTimers => t.member.joinWindow = s.member.joinWindow ∧
      t.member.rollCallWait = s.member.rollCallWait ∧
      t.member.duplicateHold = s.member.duplicateHold ∧ t.member.lineQuiet = s.member.lineQuiet
  | .aging => t.member.aging = s.member.aging
  | .roster => t.member.table = s.member.table ∧ t.member.followed = s.member.followed
  | .waits => t.member.deferred = s.member.deferred ∧ t.member.emptying = s.member.emptying
  | .memberLatches => t.member.tableFull = s.member.tableFull ∧
      t.member.lineQuietLatch = s.member.lineQuietLatch ∧
      t.member.tableFullCount = s.member.tableFullCount
  | .restarts => t.member.restartsHanded = s.member.restartsHanded
  | .channels => t.sensing.first = s.sensing.first ∧ t.sensing.second = s.sensing.second
  | .contacts => t.sensing.contact1 = s.sensing.contact1 ∧ t.sensing.contact2 = s.sensing.contact2
  | .sample => t.sensing.sample = s.sensing.sample
  | .setpoints => t.setpoints = s.setpoints
  | .demand => t.demand = { s.demand with announcer := t.demand.announcer }
  | .announcer => t.demand.announcer = s.demand.announcer ∧ t.plant.announcer = s.plant.announcer
  | .shareFlight => t.share.flight = s.share.flight ∧ t.share.mark = s.share.mark
  | .shareResult => t.share.record = s.share.record ∧ t.share.standing = s.share.standing
  | .drive => t.drive = s.drive
  | .plantFlight => t.plant.flight = s.plant.flight ∧ t.plant.mark = s.plant.mark
  | .sequencer => t.plant.arb = s.plant.arb ∧ t.plant.air = s.plant.air ∧ t.plant.prot = s.plant.prot
  | .plantTimer => t.plant.timer = s.plant.timer
  | .unplaced => t.plant.unplaced = s.plant.unplaced
  | .current => t.line.current = s.line.current
  | .pair => t.line.pair = s.line.pair
  | .latches => t.line.latches = s.line.latches
  | .counters => t.line.counters = s.line.counters
  | .wire => t.line = { s.line with
      current := t.line.current, pair := t.line.pair, latches := t.line.latches,
      counters := t.line.counters }
  | .responder => t.responder = s.responder

theorem Item.same_refl (s : State) (i : Item) : i.same s s := by
  cases i <;> simp [Item.same]

theorem Item.same_trans {s t u : State} {i : Item} (h : i.same s t) (k : i.same t u) :
    i.same s u := by
  cases i
  case demand | wire =>
    simp only [Item.same] at h k ⊢
    rw [k]
    congr 1 <;> rw [h]
  all_goals grind [Item.same]

/-- Two states that agree on every item are equal. -/
theorem State.eq_of_same {s t : State} (h : ∀ i : Item, i.same s t) : t = s := by
  obtain ⟨_, _, _, _, _, _, _, _, ⟨⟩, ⟨⟩, _, ⟨⟩, ⟨⟩, _, ⟨⟩, ⟨⟩, _, _⟩ := s
  obtain ⟨_, _, _, _, _, _, _, _, ⟨⟩, ⟨⟩, _, ⟨⟩, ⟨⟩, _, ⟨⟩, ⟨⟩, _, _⟩ := t
  have wire := h .wire
  have demand := h .demand
  obtain ⟨h1, h2, h3, h4, h5, h6, h7, h8⟩ := h .fixed
  obtain ⟨j1, j2, j3, j4⟩ := h .stationTimers
  obtain ⟨r1, r2⟩ := h .roster
  obtain ⟨w1, w2⟩ := h .waits
  obtain ⟨l1, l2, l3⟩ := h .memberLatches
  obtain ⟨c1, c2⟩ := h .channels
  obtain ⟨k1, k2⟩ := h .contacts
  obtain ⟨a1, a2⟩ := h .announcer
  obtain ⟨f1, f2⟩ := h .shareFlight
  obtain ⟨e1, e2⟩ := h .shareResult
  obtain ⟨p1, p2⟩ := h .plantFlight
  obtain ⟨q1, q2, q3⟩ := h .sequencer
  have now : _ = _ := h .clock
  have station : _ = _ := h .station
  have aging : _ = _ := h .aging
  have restarts : _ = _ := h .restarts
  have sample : _ = _ := h .sample
  have setpoints : _ = _ := h .setpoints
  have drive : _ = _ := h .drive
  have timer : _ = _ := h .plantTimer
  have unplaced : _ = _ := h .unplaced
  have current : _ = _ := h .current
  have pair : _ = _ := h .pair
  have latches : _ = _ := h .latches
  have counters : _ = _ := h .counters
  have responder : _ = _ := h .responder
  simp_all [Item.same]

/-- The state t agrees with s on every item but those listed. -/
def State.sameBut (s : State) (items : List Item) (t : State) : Prop := ∀ i, i ∈ items ∨ i.same s t

namespace State
variable {s t u : State} {a b : List Item}

theorem sameBut_refl (s : State) (a : List Item) : s.sameBut a s := fun i => .inr (i.same_refl s)

/-- What the footprint does not list is as it was. -/
theorem sameBut.of_not_mem (h : s.sameBut a t) {i : Item} (hi : i ∉ a) : i.same s t :=
  (h i).resolve_left hi

theorem sameBut.trans (h : s.sameBut a t) (k : t.sameBut a u) : s.sameBut a u := fun i =>
  (h i).elim .inl fun h => (k i).elim .inl fun k => .inr (Item.same_trans h k)

theorem sameBut.mono (h : s.sameBut a t) (hab : a ⊆ b) : s.sameBut b t := fun i =>
  (h i).imp (fun hi => hab hi) id

theorem sameBut_andIf {act : State → State} (h : ∀ u : State, u.sameBut a (act u)) (s : State)
    (c : Bool) : s.sameBut a (s.andIf c act) := by
  cases c
  · exact s.sameBut_refl a
  · exact h s

theorem sameBut_foldl {α : Type} {act : State → α → State}
    (h : ∀ (u : State) (x : α), u.sameBut a (act u x)) (xs : List α) (s : State) :
    s.sameBut a (xs.foldl act s) := by
  induction xs generalizing s with
  | nil => exact s.sameBut_refl a
  | cons x xs ih => exact (h s x).trans (ih (act s x))

theorem sameBut_iterate {act : State → State} (h : ∀ u : State, u.sameBut a (act u)) (n : Nat)
    (s : State) : s.sameBut a (act^[n] s) := by
  induction n generalizing s with
  | zero => exact s.sameBut_refl a
  | succ n ih => exact (h s).trans (ih (act s))

theorem sameBut_take {act : State → State} (h : ∀ u : State, u.sameBut a (act u)) (s : State) :
    s.sameBut a (s.take act) := by
  rcases s.take_cases act with ⟨-, k⟩ | ⟨-, k⟩ <;> rw [k]
  · exact s.sameBut_refl a
  · exact h s

theorem sameBut_reach (s : State) (m : Nat) (ha : .clock ∈ a) : s.sameBut a (s.reach m) := by
  intro i
  cases i
  case clock => exact .inl ha
  all_goals exact .inr (by simp [Item.same])

theorem sameBut_takeExpiry {act : State → State} (h : ∀ u : State, u.sameBut a (act u)) (s : State)
    (timer : Timer) (ha : .clock ∈ a) : s.sameBut a (s.takeExpiry timer act) := by
  rcases s.takeExpiry_cases timer act with k | ⟨d, -, -, k⟩ <;> rw [k]
  · exact s.sameBut_refl a
  · exact (s.sameBut_reach d ha).trans (h _)

end State

/-! ### The transmit queue -/

namespace State
variable (s : State)

/-- An update of the line that leaves the receive side and the records alone. -/
theorem onLine_changes (f : Line → Line) (h : (f s.line).current = s.line.current ∧
    (f s.line).pair = s.line.pair ∧ (f s.line).latches = s.line.latches ∧
    (f s.line).counters = s.line.counters) : s.sameBut [.wire] (s.onLine f) := by
  intro i; cases i <;> simp [Item.same, h]

theorem beginWait_changes : s.sameBut [.wire] s.beginWait := by
  unfold beginWait
  split
  · exact s.onLine_changes _ (by simp)
  · exact s.sameBut_refl _

theorem placeEntry_changes (e : TxEntry) : s.sameBut [.wire] (s.placeEntry e) := by
  have placed : s.sameBut [.wire] (s.onLine fun l => { l with queue := l.queue ++ [e] }) := by
    intro i; cases i <;> simp [Item.same]
  unfold placeEntry
  dsimp only
  split
  · exact placed.trans (beginWait_changes _)
  · exact placed

theorem placePeriodic_changes (k : TxKind) (dest : Nat) :
    s.sameBut [.wire] (s.placePeriodic k dest) := by
  unfold placePeriodic
  split_ifs
  · exact s.sameBut_refl _
  · exact s.sameBut_refl _
  · exact s.placeEntry_changes _

theorem placeReply_changes (k : TxKind) (dest : Nat) (body : List Byte) (use : ResultUse) :
    s.sameBut [.wire, .latches, .counters] (s.placeReply k dest body use).1 := by
  unfold placeReply
  split_ifs
  · exact s.sameBut_refl _
  · intro i; cases i <;> simp [Item.same]
  · exact (s.placeEntry_changes _).mono (by decide)

theorem handRestarts_changes : s.sameBut [.responder, .restarts] s.handRestarts := by
  intro i; cases i <;> simp [Item.same, handRestarts]

theorem endDump_changes : s.sameBut [.responder, .restarts] s.endDump := by
  intro i; cases i <;> simp [Item.same, endDump, handRestarts]

theorem onResponder_changes (f : Responder → Responder) :
    s.sameBut [.responder, .restarts] (s.onResponder f) := by
  intro i; cases i <;> simp [Item.same]

theorem dumpResultLeft_changes (last : Bool) (how : Departure) :
    s.sameBut [.responder, .restarts] (s.dumpResultLeft last how) := by
  unfold dumpResultLeft
  split
  · exact s.sameBut_refl _
  · dsimp only
    split_ifs
    · exact s.onResponder_changes _
    · exact s.endDump_changes

theorem resultLeft_changes (use : ResultUse) (how : Departure) :
    s.sameBut [.responder, .restarts] (s.resultLeft use how) := by
  unfold resultLeft
  split
  · exact s.sameBut_refl _
  · exact (s.onResponder_changes _).trans (handRestarts_changes _)
  · exact s.dumpResultLeft_changes _ _

theorem purgeQueue_changes : s.sameBut [.wire, .responder, .restarts] s.purgeQueue := by
  unfold purgeQueue
  extract_lets gone stopped s1 s2
  have removed : s.sameBut [.wire] s1 := s.onLine_changes _ (by simp)
  have waited : s1.sameBut [.wire] s2 := by
    unfold s2
    split_ifs
    · exact s1.onLine_changes _ (by simp)
    · exact s1.beginWait_changes
    · exact s1.sameBut_refl _
  exact ((removed.trans waited).mono (by decide)).trans
    (sameBut_foldl (fun u e => (u.resultLeft_changes _ _).mono (by decide)) _ _)

/-! ### Announcements -/

theorem onAnnouncer_changes (f : Announcer → Announcer) : s.sameBut [.announcer] (s.onAnnouncer f) := by
  unfold onAnnouncer
  split <;> intro i <;> cases i <;> simp [Item.same]

theorem placeAnnouncement_changes : s.sameBut [.wire, .announcer] s.placeAnnouncement := by
  unfold placeAnnouncement
  split_ifs
  · exact (s.onAnnouncer_changes _).mono (by decide)
  · exact ((s.placePeriodic_changes _ _).mono (by decide)).trans
      ((onAnnouncer_changes _ _).mono (by decide))

theorem promptCause_changes : s.sameBut [.wire, .announcer] s.promptCause := by
  unfold promptCause
  split_ifs
  · exact s.sameBut_refl _
  · exact s.sameBut_refl _
  · exact (s.onAnnouncer_changes _).mono (by decide)
  · exact (s.onAnnouncer_changes _).mono (by decide)
  · exact s.placeAnnouncement_changes

theorem promptFlags_changes (old : State) : s.sameBut [.wire, .announcer] (s.promptFlags old) := by
  unfold promptFlags
  split <;> exact sameBut_andIf promptCause_changes _ _

theorem periodExpired_changes : s.sameBut [.wire, .announcer] s.periodExpired :=
  s.placeAnnouncement_changes.trans ((onAnnouncer_changes _ _).mono (by decide))

theorem spacingExpired_changes : s.sameBut [.wire, .announcer] s.spacingExpired :=
  ((s.onAnnouncer_changes _).mono (by decide)).trans (sameBut_andIf placeAnnouncement_changes _ _)

/-! ### Reckonings -/

theorem onShare_changes (f : Share → Share) (h : (f s.share).record = s.share.record ∧
    (f s.share).standing = s.share.standing) : s.sameBut [.shareFlight] (s.onShare f) := by
  intro i; cases i <;> simp [Item.same, h]

theorem onPlant_flight_changes (f : Option PlantFlight) (m : Bool) :
    s.sameBut [.plantFlight] (s.onPlant fun p => { p with flight := f, mark := m }) := by
  intro i; cases i <;> simp [Item.same]

theorem beginShare_changes : s.sameBut [.shareFlight] s.beginShare := s.onShare_changes _ (by simp)

theorem shareTrigger_changes : s.sameBut [.shareFlight] s.shareTrigger := by
  unfold shareTrigger
  split
  · exact s.beginShare_changes
  · exact s.onShare_changes _ (by simp)

theorem beginPlant_changes : s.sameBut [.plantFlight] s.beginPlant :=
  s.onPlant_flight_changes _ s.plant.mark

theorem plantTrigger_changes : s.sameBut [.plantFlight] s.plantTrigger := by
  unfold plantTrigger
  split
  · exact s.sameBut_refl _
  · split
    · exact s.beginPlant_changes
    · exact s.onPlant_flight_changes s.plant.flight true

theorem plantTriggers_changes (changes : List Bool) :
    s.sameBut [.plantFlight] (s.plantTriggers changes) :=
  sameBut_foldl (fun u c => sameBut_andIf plantTrigger_changes u c) _ _

theorem membershipChange_changes : s.sameBut [.shareFlight, .plantFlight] s.membershipChange :=
  (s.shareTrigger_changes.mono (by decide)).trans ((plantTrigger_changes _).mono (by decide))

/-! ### The damper drive and the share unit -/

theorem onDrive_changes (f : Drive → Drive) : s.sameBut [.drive] (s.onDrive f) := by
  intro i; cases i <;> simp [Item.same]

variable {s} in
theorem sameBut_of_drives {t : State} (h : s.drives t) : s.sameBut [.drive] t := by
  obtain ⟨d, rfl⟩ := h
  exact s.onDrive_changes fun _ => d

theorem handUnplaced_changes (u : Option Nat) : s.sameBut [.unplaced] (s.handUnplaced u) := by
  unfold handUnplaced
  split
  · exact s.sameBut_refl _
  · intro i; cases i <;> simp [Item.same]

theorem onShare_all_changes (f : Share → Share) :
    s.sameBut [.shareFlight, .shareResult] (s.onShare f) := by
  intro i; cases i <;> simp [Item.same]

theorem endShare_changes (f : ShareFlight) :
    s.sameBut [.shareFlight, .shareResult, .unplaced, .drive] (s.endShare f) := by
  unfold endShare
  extract_lets out s1 s2
  have stored : s.sameBut [.shareFlight, .shareResult, .unplaced] s1 :=
    ((s.onShare_all_changes _).mono (by decide)).trans ((handUnplaced_changes _ _).mono (by decide))
  have handed : s1.sameBut [.drive] s2 := by
    unfold s2
    split
    · exact sameBut_of_drives (s1.handTarget_frame _)
    · exact s1.sameBut_refl _
  exact ((stored.mono (by decide)).trans (handed.mono (by decide))).trans
    ((sameBut_andIf beginShare_changes _ _).mono (by decide))

theorem shareEnds_changes (endStop : Bool) :
    s.sameBut [.clock, .shareFlight, .shareResult, .unplaced, .drive, .wire, .announcer]
      (s.shareEnds endStop) := by
  unfold shareEnds
  split
  · exact s.sameBut_refl _
  · split_ifs
    · exact ((((s.onDrive_changes _).mono (by decide)).trans (sameBut_reach _ _ (by decide))).trans
        ((endShare_changes _ _).mono (by decide))).trans ((promptFlags_changes _ _).mono (by decide))
    · exact s.sameBut_refl _

/-- A drive event: the drive moves, and its damper-fault flag may prompt. -/
theorem promptedDrive_changes {t u : State} (h : s.drives t) :
    s.sameBut [.drive, .wire, .announcer] (t.promptFlags u) :=
  ((sameBut_of_drives h).mono (by decide)).trans ((promptFlags_changes _ _).mono (by decide))

theorem moves_changes (stall endStop : Bool) :
    s.sameBut [.drive, .wire, .announcer] (s.moves stall endStop) := by
  unfold moves
  split
  · split_ifs
    · exact s.sameBut_refl _
    · exact s.promptedDrive_changes (drives_trans (s.onDrive_frame _) (moveStep_frame _ _ _))
  · exact s.sameBut_refl _

/-! ### The plant sequencer -/

/-- An update of the arbitration, protection and airflow of the sequencer. -/
theorem onPlant_sequencer_changes (f : Plant → Plant) (h : f s.plant = { s.plant with
    arb := (f s.plant).arb, prot := (f s.plant).prot, air := (f s.plant).air }) :
    s.sameBut [.sequencer] (s.onPlant f) := by
  intro i; cases i <;> simp only [Item.same, onPlant_plant] <;> (try rw [h]) <;> simp

theorem tellShare_changes (old : Plant) : s.sameBut [.shareFlight] (s.tellShare old) :=
  sameBut_andIf shareTrigger_changes _ _

theorem tellStatus_changes (old : Plant) : s.sameBut [.wire, .announcer] (s.tellStatus old) :=
  sameBut_andIf promptCause_changes _ _

theorem slewStep_changes : s.sameBut [.sequencer, .shareFlight, .wire, .announcer] s.slewStep :=
  (((s.onPlant_sequencer_changes _ rfl).mono (by decide)).trans
    ((tellShare_changes _ _).mono (by decide))).trans ((tellStatus_changes _ _).mono (by decide))

theorem boostStep_changes : s.sameBut [.sequencer] s.boostStep :=
  sameBut_andIf (fun u => u.onPlant_sequencer_changes _ rfl) _ _

theorem forcePlantIdle_changes : s.sameBut [.sequencer, .shareFlight] s.forcePlantIdle :=
  ((s.onPlant_sequencer_changes _ rfl).mono (by decide)).trans
    ((tellShare_changes _ _).mono (by decide))

theorem closePlant_changes (mark : Bool) : s.sameBut [.plantFlight] (s.closePlant mark) :=
  (s.onPlant_flight_changes none false).trans (sameBut_andIf beginPlant_changes _ _)

theorem endPlant_changes (f : PlantFlight) :
    s.sameBut [.sequencer, .plantFlight, .shareFlight, .wire, .announcer] (s.endPlant f) := by
  unfold endPlant
  split_ifs
  · exact ((s.onPlant_sequencer_changes _ rfl).mono (by decide)).trans
      ((closePlant_changes _ _).mono (by decide))
  · extract_lets new s1
    have worked : s.sameBut [.sequencer] { s with plant := new } :=
      s.onPlant_sequencer_changes (fun _ => new) rfl
    exact (((worked.mono (by decide)).trans ((tellShare_changes _ _).mono (by decide))).trans
      ((tellStatus_changes _ _).mono (by decide))).trans ((closePlant_changes _ _).mono (by decide))

theorem plantEnds_changes :
    s.sameBut [.clock, .sequencer, .plantFlight, .shareFlight, .wire, .announcer] s.plantEnds := by
  unfold plantEnds
  split
  · exact s.sameBut_refl _
  · split_ifs
    · exact (s.sameBut_reach _ (by decide)).trans ((endPlant_changes _ _).mono (by decide))
    · exact s.sameBut_refl _

/-- A sequencer timer's expiry: its own update, and a trigger. -/
theorem onArb_trigger_changes (f : Arbitration → Arbitration) :
    s.sameBut [.clock, .sequencer, .plantFlight] (s.onArb f).plantTrigger :=
  ((s.onPlant_sequencer_changes _ rfl).mono (by decide)).trans
    ((plantTrigger_changes _).mono (by decide))

theorem onProt_trigger_changes (f : Protection → Protection) :
    s.sameBut [.clock, .sequencer, .plantFlight] (s.onProt f).plantTrigger :=
  ((s.onPlant_sequencer_changes _ rfl).mono (by decide)).trans
    ((plantTrigger_changes _).mono (by decide))

/-! ### Sensing, demand, setpoints -/

theorem onDemand_changes (f : Demand → Demand) (h : (f s.demand).announcer = s.demand.announcer) :
    s.sameBut [.demand] (s.onDemand f) := by
  intro i; cases i <;> simp [Item.same, h]

theorem evaluate_changes (old : State) :
    s.sameBut [.demand, .shareFlight, .wire, .announcer] (s.evaluate old) :=
  (((s.onDemand_changes _ (by simp)).mono (by decide)).trans
    ((sameBut_andIf shareTrigger_changes _ _).mono (by decide))).trans
    ((sameBut_andIf promptCause_changes _ _).mono (by decide))

theorem recompute_changes (old : State) :
    s.sameBut [.demand, .shareFlight, .wire, .announcer] (s.recompute old) :=
  (((s.onDemand_changes _ (by simp)).trans (onDemand_changes _ _ (by simp))).mono
    (by decide)).trans (evaluate_changes _ _)

theorem handOver_changes (old : State) :
    s.sameBut [.demand, .shareFlight, .wire, .announcer, .sequencer, .plantFlight]
      (s.handOver old) := by
  unfold handOver
  split
  · exact ((s.recompute_changes old).mono (by decide)).trans
      ((promptFlags_changes _ _).mono (by decide))
  · exact (((s.onPlant_sequencer_changes _ rfl).mono (by decide)).trans
      ((plantTriggers_changes _ _).mono (by decide))).trans
      ((promptFlags_changes _ _).mono (by decide))

theorem onSensing_changes (f : Sensing → Sensing) :
    s.sameBut [.channels, .contacts, .sample] (s.onSensing f) := by
  intro i; cases i <;> simp [Item.same]

theorem sampleChannels_changes (x y : Conversion) :
    s.sameBut [.channels] (s.sampleChannels x y) := by
  intro i; cases i <;> simp [Item.same, sampleChannels]

theorem onContact_changes (c : Contact) (f : ContactInput → ContactInput) :
    s.sameBut [.contacts] (s.onContact c f) := by
  cases c <;> intro i <;> cases i <;> simp [Item.same, onContact]

theorem levelChange_changes (c : Contact) (level : Level) :
    s.sameBut [.contacts] (s.levelChange c level) := by
  unfold levelChange
  split_ifs
  · exact s.sameBut_refl _
  · exact (s.onContact_changes _ _).trans (sameBut_andIf (fun u => u.onContact_changes _ _) _ _)

theorem contactChanged_changes (old : State) (c : Contact) :
    s.sameBut [.demand, .shareFlight, .wire, .announcer, .sequencer, .plantFlight]
      (s.contactChanged old c) := by
  unfold contactChanged
  split
  · exact (((s.evaluate_changes old).mono (by decide)).trans
      ((shareTrigger_changes _).mono (by decide))).trans ((promptFlags_changes _ _).mono (by decide))
  · exact s.sameBut_refl _
  · exact ((sameBut_andIf (fun u => u.onPlant_sequencer_changes _ rfl) _ _).mono (by decide)).trans
      ((plantTrigger_changes _).mono (by decide))
  · exact (plantTrigger_changes _).mono (by decide)

theorem debounced_changes (c : Contact) :
    s.sameBut [.contacts, .demand, .shareFlight, .wire, .announcer, .sequencer, .plantFlight]
      (s.debounced c) :=
  ((s.onContact_changes _ _).mono (by decide)).trans ((contactChanged_changes _ _ _).mono (by decide))

theorem applySetpoint_changes (f : Frame) :
    s.sameBut [.setpoints, .demand, .shareFlight, .wire, .announcer, .latches, .counters]
      (s.applySetpoint f) := by
  unfold applySetpoint
  split
  · extract_lets w kept s1 s2
    have stored : s.sameBut [.setpoints] s1 := by intro i; cases i <;> simp [Item.same, s1]
    have worked : s.sameBut [.setpoints, .demand, .shareFlight, .wire, .announcer, .latches,
        .counters] s2 :=
      (stored.mono (by decide)).trans ((recompute_changes _ _).mono (by decide))
    split_ifs
    · exact worked.trans ((placeReply_changes _ _ _ _ _).mono (by decide))
    · exact worked
  · split_ifs
    · exact (placeReply_changes _ _ _ _ _).mono (by decide)
    · exact s.sameBut_refl _

/-! ### The membership unit -/

theorem onMember_station_changes (f : Membership → Membership)
    (h : f s.member = { s.member with
      station := (f s.member).station, joinWindow := (f s.member).joinWindow
      rollCallWait := (f s.member).rollCallWait, duplicateHold := (f s.member).duplicateHold
      lineQuiet := (f s.member).lineQuiet }) :
    s.sameBut [.station, .stationTimers] (s.onMember f) := by
  intro i; cases i <;> simp only [Item.same, onMember_member] <;> (try rw [h]) <;> simp

theorem onMember_timer_changes (f : Membership → Membership)
    (h : f s.member = { s.member with
      joinWindow := (f s.member).joinWindow
      rollCallWait := (f s.member).rollCallWait, duplicateHold := (f s.member).duplicateHold
      lineQuiet := (f s.member).lineQuiet }) :
    s.sameBut [.stationTimers] (s.onMember f) := by
  intro i; cases i <;> simp only [Item.same, onMember_member] <;> (try rw [h]) <;> simp

theorem leftOnline_changes :
    s.sameBut [.stationTimers, .announcer, .plantFlight, .sequencer, .shareFlight] s.leftOnline := by
  unfold leftOnline
  extract_lets s1 s2
  have stopped : s.sameBut [.stationTimers, .announcer] s1 :=
    ((s.onMember_timer_changes _ rfl).mono (by decide)).trans
      ((onAnnouncer_changes _ _).mono (by decide))
  have forced : s1.sameBut [.plantFlight, .sequencer, .shareFlight] s2 := by
    unfold s2
    split
    · exact s1.sameBut_refl _
    · exact ((s1.onPlant_flight_changes _ s1.plant.mark).mono (by decide)).trans
        ((forcePlantIdle_changes _).mono (by decide))
  exact (((stopped.mono (by decide)).trans (forced.mono (by decide))).trans
    ((shareTrigger_changes _).mono (by decide))).trans ((plantTrigger_changes _).mono (by decide))

theorem entered_changes :
    s.sameBut [.stationTimers, .wire, .shareFlight, .plantFlight, .announcer] s.entered := by
  unfold entered
  split
  · exact s.sameBut_refl _
  · exact s.sameBut_refl _
  · exact (s.onMember_timer_changes _ rfl).mono (by decide)
  · exact (s.placePeriodic_changes _ _).mono (by decide)
  · exact (s.onMember_timer_changes _ rfl).mono (by decide)
  · exact ((((s.onMember_timer_changes _ rfl).mono (by decide)).trans
      ((shareTrigger_changes _).mono (by decide))).trans
      ((plantTrigger_changes _).mono (by decide))).trans
      ((placeAnnouncement_changes _).mono (by decide))

/-- What a change of the station state reaches. -/
abbrev stationItems : List Item :=
  [.station, .stationTimers, .wire, .responder, .restarts, .announcer, .plantFlight, .sequencer,
    .shareFlight]

theorem enterStation_changes (x : Station) : s.sameBut stationItems (s.enterStation x) :=
  ((((s.onMember_station_changes _ rfl).mono (by decide)).trans
    ((purgeQueue_changes _).mono (by decide))).trans
    ((sameBut_andIf leftOnline_changes _ _).mono (by decide))).trans
    ((entered_changes _).mono (by decide))

theorem duplicateEvidence_changes : s.sameBut stationItems s.duplicateEvidence := by
  unfold duplicateEvidence
  split
  any_goals exact s.enterStation_changes _
  all_goals exact s.sameBut_refl _

theorem judgeSource_changes (f : Frame) : s.sameBut stationItems (s.judgeSource f) :=
  sameBut_andIf duplicateEvidence_changes _ _

theorem onMember_roster_changes (table : List Entry) (followed : Option Nat) :
    s.sameBut [.roster] (s.onMember fun m => { m with table, followed }) := by
  intro i; cases i <;> simp [Item.same]

/-- What a change of the table reaches. -/
abbrev tableItems : List Item := [.roster, .shareFlight, .plantFlight, .wire, .announcer]

theorem tableBecomes_changes (table : List Entry) (changed : Bool) :
    s.sameBut tableItems (s.tableBecomes table changed) :=
  (((s.onMember_roster_changes _ _).mono (by decide)).trans
    ((sameBut_andIf membershipChange_changes _ _).mono (by decide))).trans
    ((promptFlags_changes _ _).mono (by decide))

theorem tableRecord_changes (a : Nat) (r : Record) :
    s.sameBut (.memberLatches :: tableItems) (s.tableRecord a r) := by
  unfold tableRecord
  split
  · exact (((s.tableBecomes_changes _ _).mono (by decide)).trans
      ((sameBut_andIf shareTrigger_changes _ _).mono (by decide))).trans
      ((sameBut_andIf plantTrigger_changes _ _).mono (by decide))
  · split_ifs
    · exact (s.tableBecomes_changes _ _).mono (by decide)
    · split
      · exact (s.tableBecomes_changes _ _).mono (by decide)
      · intro i; cases i <;> simp [Item.same]

theorem onLine_current_changes (x : Option Frame) :
    s.sameBut [.current] (s.onLine fun l => { l with current := x }) := by
  intro i; cases i <;> simp [Item.same]

/-- What a frame handed on to the table reaches. -/
abbrev recordItems : List Item := .current :: .roster :: .memberLatches :: stationItems

theorem handRecord_changes (f : Frame) : s.sameBut recordItems (s.handRecord f) := by
  unfold handRecord
  split_ifs
  · exact s.sameBut_refl _
  · exact (s.duplicateEvidence_changes).mono (by decide)
  · exact (s.onLine_current_changes _).mono (by decide)
  · exact (s.tableRecord_changes _ _).mono (by decide)

theorem applyWaitingWrite_changes : s.sameBut recordItems s.applyWaitingWrite := by
  unfold applyWaitingWrite
  split
  · exact s.sameBut_refl _
  · split_ifs
    · exact s.sameBut_refl _
    · exact ((s.onLine_current_changes _).mono (by decide)).trans
        ((tableRecord_changes _ _ _).mono (by decide))

theorem onMember_waits_changes (f : Membership → Membership)
    (h : f s.member = { s.member with
      deferred := (f s.member).deferred, emptying := (f s.member).emptying }) :
    s.sameBut [.waits] (s.onMember f) := by
  intro i; cases i <;> simp only [Item.same, onMember_member] <;> (try rw [h]) <;> simp

theorem onMember_followed_changes (x : Option Nat) :
    s.sameBut [.roster] (s.onMember fun m => { m with followed := x }) :=
  s.onMember_roster_changes s.member.table x

theorem occupationEnds_changes : s.sameBut (.waits :: tableItems) s.occupationEnds := by
  unfold occupationEnds
  split
  · exact s.sameBut_refl _
  · extract_lets s1 s2
    have aged : s.sameBut (.waits :: tableItems) s2 :=
      ((s.onMember_waits_changes _ rfl).mono (by decide)).trans
        (sameBut_iterate (fun u => (u.tableBecomes_changes _ _).mono (by decide)) _ _)
    split
    · exact aged
    · split_ifs
      · exact aged.trans ((onMember_followed_changes _ _).mono (by decide))
      · exact (aged.trans ((onMember_waits_changes _ _ rfl).mono (by decide))).trans
          ((tableBecomes_changes _ _ _).mono (by decide))

theorem emptyTable_changes : s.sameBut (.waits :: tableItems) s.emptyTable := by
  unfold emptyTable
  extract_lets followed
  split_ifs
  · intro i; cases i <;> simp [Item.same]
  · exact ((s.tableBecomes_changes _ _).mono (by decide)).trans
      ((onMember_followed_changes _ _).mono (by decide))

theorem onMember_restarts_changes (n : Nat) :
    s.sameBut [.restarts] (s.onMember fun m => { m with restartsHanded := n }) := by
  intro i; cases i <;> simp [Item.same]

theorem carryOutRestart_changes :
    s.sameBut (.waits :: .roster :: stationItems) s.carryOutRestart := by
  unfold carryOutRestart
  split
  · exact s.sameBut_refl _
  · split_ifs
    · exact (((s.onMember_restarts_changes _).mono (by decide)).trans
        ((emptyTable_changes _).mono (by decide))).trans ((enterStation_changes _ _).mono (by decide))
    · exact s.sameBut_refl _

theorem endSnapshot_changes (unit : ReckoningUnit) :
    s.sameBut (.clock :: .waits :: tableItems) (s.endSnapshot unit) := by
  unfold endSnapshot
  split
  · split
    · exact ((s.sameBut_reach _ (by decide)).trans ((onShare_changes _ _ (by simp)).mono
        (by decide))).trans ((occupationEnds_changes _).mono (by decide))
    · exact s.sameBut_refl _
  · split
    · split_ifs
      · exact ((s.sameBut_reach _ (by decide)).trans ((onPlant_flight_changes _ _
          s.plant.mark).mono (by decide))).trans ((occupationEnds_changes _).mono (by decide))
      · exact s.sameBut_refl _
    · exact s.sameBut_refl _

/-! ### The zone line -/

theorem onLatches_changes (f : LineLatches → LineLatches) : s.sameBut [.latches] (s.onLatches f) := by
  intro i; cases i <;> simp [Item.same, onLatches]

theorem onCounters_changes (f : LineCounters → LineCounters) :
    s.sameBut [.counters] (s.onCounters f) := by
  intro i; cases i <;> simp [Item.same, onCounters]

theorem onLine_pair_changes (x : List Frame) :
    s.sameBut [.pair] (s.onLine fun l => { l with pair := x }) := by
  intro i; cases i <;> simp [Item.same]

theorem sentTo_changes (e : TxEntry) :
    s.sameBut [.announcer, .stationTimers, .responder, .restarts] (s.sentTo e) := by
  unfold sentTo
  split
  · exact (s.onAnnouncer_changes _).mono (by decide)
  · exact (s.onAnnouncer_changes _).mono (by decide)
  · exact (s.onMember_timer_changes _ rfl).mono (by decide)
  · exact s.sameBut_refl _
  · exact s.sameBut_refl _
  · exact (s.resultLeft_changes _ _).mono (by decide)

theorem completeSending_changes (e : TxEntry) :
    s.sameBut [.wire, .announcer, .stationTimers, .responder, .restarts] (s.completeSending e) :=
  (((s.onLine_changes _ (by simp)).mono (by decide)).trans
    ((sentTo_changes _ _).mono (by decide))).trans ((beginWait_changes _).mono (by decide))

theorem receive_changes (f : Frame) :
    s.sameBut [.counters, .stationTimers, .pair, .latches] (s.receive f) := by
  unfold receive
  extract_lets s1
  have counted : s.sameBut [.counters, .stationTimers, .pair, .latches] s1 :=
    ((s.onCounters_changes _).mono (by decide)).trans ((sameBut_andIf
      (fun u => u.onMember_timer_changes _ rfl) _ _).mono (by decide))
  split_ifs
  · exact counted.trans ((s1.onLine_pair_changes (s1.line.pair ++ [f])).mono (by decide))
  · exact counted.trans (((onLatches_changes _ _).mono (by decide)).trans
      ((onCounters_changes _ _).mono (by decide)))
  · exact counted

/-- What a byte handed to the assembler reaches. -/
abbrev heardItems : List Item := [.wire, .counters, .stationTimers, .pair, .latches]

theorem judgeAssembly_changes (bs : List Byte) : s.sameBut heardItems (s.judgeAssembly bs) := by
  have assembled (x : List Byte) : s.sameBut heardItems (s.onLine fun l => { l with assembly := x }) :=
    (s.onLine_changes _ (by simp)).mono (by decide)
  unfold judgeAssembly
  split_ifs
  · exact (assembled _).trans ((onLatches_changes _ _).mono (by decide))
  · exact (assembled _).trans ((receive_changes _ _).mono (by decide))
  · exact (assembled _).trans (((onLatches_changes _ _).mono (by decide)).trans
      ((onCounters_changes _ _).mono (by decide)))
  · exact assembled _

theorem truncate_changes : s.sameBut [.wire, .latches] s.truncate := by
  unfold truncate
  split
  · exact s.sameBut_refl _
  · exact ((s.onLine_changes _ (by simp)).mono (by decide)).trans
      ((onLatches_changes _ _).mono (by decide))

theorem assemble_changes (b : LineByte) : s.sameBut heardItems (s.assemble b) := by
  unfold assemble
  split_ifs
  · exact (s.onLine_changes _ (by simp)).mono (by decide)
  · exact s.sameBut_refl _
  · exact s.judgeAssembly_changes _

theorem lineIdle_changes : s.sameBut [.wire] s.lineIdle := by
  unfold lineIdle
  split
  · exact s.sameBut_refl _
  · exact (s.onLine_changes _ (by simp)).trans (beginWait_changes _)

theorem startAttempt_changes (e : TxEntry) :
    s.sameBut [.wire, .latches, .announcer] (s.startAttempt e) :=
  ((s.truncate_changes.mono (by decide)).trans ((onLine_changes _ _ (by simp)).mono (by decide))).trans
    ((sameBut_andIf (fun u => u.onAnnouncer_changes _) _ _).mono (by decide))

theorem crowdedTo_changes (e : TxEntry) : s.sameBut stationItems (s.crowdedTo e) := by
  unfold crowdedTo
  split
  · exact s.sameBut_refl _
  · exact s.sameBut_refl _
  · exact s.enterStation_changes _
  · exact s.sameBut_refl _
  · exact s.sameBut_refl _
  · exact (s.resultLeft_changes _ _).mono (by decide)

/-- What a lost attempt reaches. -/
abbrev lossItems : List Item := .latches :: .counters :: stationItems

theorem loseAttempt_changes (e : TxEntry) : s.sameBut lossItems (s.loseAttempt e) := by
  unfold loseAttempt
  extract_lets s1 s2
  have counted : s.sameBut lossItems s1 :=
    ((s.onCounters_changes _).mono (by decide)).trans ((onLine_changes _ _ (by simp)).mono (by decide))
  split_ifs
  · exact (counted.trans (((s1.onLine_changes _ (by simp)).mono (by decide)).trans
      ((onLatches_changes _ _).mono (by decide)))).trans ((crowdedTo_changes _ _).mono (by decide))
  · exact counted.trans ((s1.onLine_changes _ (by simp)).mono (by decide))

theorem byteBegins_changes (n : Nat) : s.sameBut [.wire, .latches] (s.byteBegins n) :=
  (((sameBut_andIf lineIdle_changes _ _).mono (by decide)).trans
    (sameBut_andIf truncate_changes _ _)).trans ((onLine_changes _ _ (by simp)).mono (by decide))

/-- What bytes on the line reach. -/
abbrev lineItems : List Item := .pair :: lossItems

theorem echoMatches_changes (e : TxEntry) (b : LineByte) :
    s.sameBut lineItems (s.echoMatches e b) := by
  unfold echoMatches
  split
  · exact (s.completeSending_changes _).mono (by decide)
  · exact ((s.onLine_changes _ (by simp)).mono (by decide)).trans
      ((assemble_changes _ _).mono (by decide))

theorem hearByte_changes (b : LineByte) : s.sameBut lineItems (s.hearByte b) := by
  have begun := (s.byteBegins_changes b.idleBits).mono (b := lineItems) (by decide)
  unfold hearByte
  dsimp only
  split
  · exact begun.trans ((assemble_changes _ _).mono (by decide))
  · split_ifs
    · exact begun.trans (echoMatches_changes _ _ _)
    · exact (begun.trans ((loseAttempt_changes _ _).mono (by decide))).trans
        ((assemble_changes _ _).mono (by decide))

theorem hearRun_changes (bytes : List LineByte) : s.sameBut lineItems (s.hearRun bytes) :=
  (sameBut_foldl hearByte_changes _ _).trans ((lineIdle_changes _).mono (by decide))

theorem badByte_changes (n : Nat) : s.sameBut lineItems (s.badByte n) := by
  unfold badByte
  extract_lets s1
  have heard : s.sameBut lineItems s1 :=
    ((((s.byteBegins_changes n).mono (by decide)).trans ((onLatches_changes _ _).mono
      (by decide))).trans ((onCounters_changes _ _).mono (by decide))).trans
      ((onLine_changes _ _ (by simp)).mono (by decide))
  split
  · exact heard.trans ((loseAttempt_changes _ _).mono (by decide))
  · exact heard

theorem framingError_changes (n : Nat) (lineHeld : Bool) :
    s.sameBut lineItems (s.framingError n lineHeld) := by
  unfold framingError
  split
  · exact (s.badByte_changes n).trans ((onLine_changes _ _ (by simp)).mono (by decide))
  · exact (s.badByte_changes n).trans ((lineIdle_changes _).mono (by decide))

theorem echoDiffers_changes (e : TxEntry) (matched : Nat) (wrong : Option Byte) (goesOn : Bool) :
    s.sameBut lineItems (s.echoDiffers e matched wrong goesOn) := by
  unfold echoDiffers
  split
  · exact s.sameBut_refl _
  · split_ifs
    · exact s.sameBut_refl _
    · refine sameBut.trans ?_ ((sameBut_andIf lineIdle_changes _ _).mono (by decide))
      split
      · exact s.badByte_changes _
      · exact sameBut_foldl hearByte_changes _ _

variable {s} in
theorem sameBut_takeFrame {a : List Item} {named : Frame → Bool} {act : Frame → State → State}
    (h : ∀ (f : Frame) (u : State), u.sameBut a (act f u)) (ha : .pair ∈ a) :
    s.sameBut a (s.takeFrame named act) := by
  refine sameBut_take (fun u => ?_) s
  have taken (rest : List Frame) := (u.onLine_pair_changes rest).mono (b := a) (by simpa using ha)
  split
  · split
    · dsimp only
      split
      · exact taken _
      · exact (taken _).trans (h _ _)
    · exact u.sameBut_refl _
  · exact u.sameBut_refl _
  · exact u.sameBut_refl _

/-! ### The service responder -/

/-- What an answer reaches. -/
abbrev answerItems : List Item := [.wire, .latches, .counters]

theorem answer_changes (f : Frame) (code : ResultCode) (figures : List Byte) (use : ResultUse) :
    s.sameBut answerItems (s.answer f code figures use).1 := s.placeReply_changes _ _ _ _

variable {s} in
theorem sameBut_serve {a : List Item} {r : Request} {carry : Frame → State → State}
    (h : ∀ (f : Frame) (u : State), u.sameBut a (carry f u)) :
    s.sameBut (.pair :: a ++ answerItems ++ stationItems) (s.serve r carry) := by
  refine sameBut_takeFrame (fun f u => sameBut.trans ?_ ((judgeSource_changes _ _).mono
    (by simp))) (by simp)
  unfold respond
  split
  · exact u.sameBut_refl _
  · split
    · exact (u.answer_changes _ _ _ _).mono (fun i hi => by simp only [List.mem_append]; tauto)
    · exact (h f u).mono (fun i hi => by simp only [List.mem_append, List.mem_cons]; tauto)

theorem clearLatches_changes :
    s.sameBut [.latches, .memberLatches, .contacts, .drive] s.clearLatches := by
  intro i; cases i <;> simp [Item.same, clearLatches, onLatches]

theorem reportStatus_changes (f : Frame) :
    s.sameBut [.wire, .latches, .counters, .memberLatches, .contacts, .drive] (s.reportStatus f) :=
  ((s.answer_changes _ _ _ _).mono (by decide)).trans
    ((sameBut_andIf clearLatches_changes _ _).mono (by decide))

theorem clearLockout_changes : s.sameBut [.sequencer, .plantFlight] s.clearLockout := by
  unfold clearLockout
  split
  · exact s.sameBut_refl _
  · exact ((s.onPlant_sequencer_changes _ rfl).mono (by decide)).trans
      ((plantTrigger_changes _).mono (by decide))

theorem carryClear_changes (f : Frame) (endStop : Bool) :
    s.sameBut [.drive, .sequencer, .plantFlight, .announcer, .wire, .latches, .counters]
      (s.carryClear f endStop) :=
  ((((sameBut_of_drives (drives_trans (s.onDrive_frame _) (clearDrive_frame _))).mono
    (by decide)).trans ((clearLockout_changes _).mono (by decide))).trans
    ((promptFlags_changes _ _).mono (by decide))).trans ((answer_changes _ _ _ _ _).mono (by decide))

theorem carryRehome_changes (f : Frame) (endStop : Bool) :
    s.sameBut [.drive, .announcer, .wire, .latches, .counters] (s.carryRehome f endStop) :=
  ((s.promptedDrive_changes (drives_trans (s.onDrive_frame _) (homeRequest_frame _))).mono
    (by decide)).trans ((answer_changes _ _ _ _ _).mono (by decide))

theorem carryHold_changes (f : Frame) (endStop : Bool) :
    s.sameBut [.drive, .announcer, .wire, .latches, .counters] (s.carryHold f endStop) := by
  unfold carryHold
  extract_lets target
  split_ifs
  · exact ((s.promptedDrive_changes (drives_trans (s.onDrive_frame _) (startHold_frame _ _))).mono
      (by decide)).trans ((answer_changes _ _ _ _ _).mono (by decide))
  · exact (s.answer_changes _ _ _ _).mono (by decide)

/-- What the responder's own work reaches. -/
abbrev responderItems : List Item := [.wire, .latches, .counters, .responder, .restarts]

theorem placeDump_changes (d : Dump) (last aborted : Bool) (figures : List Byte) :
    s.sameBut responderItems (s.placeDump d last aborted figures) := by
  unfold placeDump
  extract_lets s1 p
  have placed : s.sameBut responderItems p.1 :=
    ((s.onResponder_changes _).mono (by decide)).trans ((placeReply_changes _ _ _ _ _).mono (by decide))
  split_ifs
  · exact placed
  · exact placed.trans ((endDump_changes _).mono (by decide))

theorem buildDump_changes (d : Dump) : s.sameBut responderItems (s.buildDump d) := by
  unfold buildDump
  split_ifs
  · exact s.placeDump_changes _ _ _ _
  · split <;> exact s.placeDump_changes _ _ _ _

theorem continueDump_changes : s.sameBut responderItems s.continueDump := by
  unfold continueDump
  split
  · exact s.sameBut_refl _
  · split_ifs
    · exact s.buildDump_changes _
    · exact s.sameBut_refl _

theorem restartWaits_changes (done dumpEnd : Bool) :
    s.sameBut [.responder, .restarts] (s.restartWaits done dumpEnd) :=
  (s.onResponder_changes _).trans (handRestarts_changes _)

theorem carryRestart_changes (f : Frame) : s.sameBut responderItems (s.carryRestart f) := by
  unfold carryRestart
  split
  · exact (((s.answer_changes _ _ _ _).mono (by decide)).trans
      ((restartWaits_changes _ _ _).mono (by decide)))
  · extract_lets s1 p
    have marked : s.sameBut responderItems s1 := (s.onResponder_changes _).mono (by decide)
    split_ifs
    · exact marked.trans ((restartWaits_changes _ _ _).mono (by decide))
    · exact (marked.trans ((answer_changes _ _ _ _ _).mono (by decide))).trans
        ((restartWaits_changes _ _ _).mono (by decide))

end State

end Sys2Proof.Machine
end

section
/-! PROOF. The footprint of a change of the station state, of the end of START, and of each command. -/

namespace Sys2Proof.Machine

/-! ### A change of the station state, in its three parts (R3, R9) -/

namespace State
variable (s : State)

/-- The station state stands changed, its timers stopped, what it does not allow gone from the queue. -/
def moveTo (x : Station) : State :=
  (s.onMember fun m =>
    { m with
      station := x, joinWindow := .stopped, rollCallWait := .stopped, duplicateHold := .stopped
      }).purgeQueue

theorem enterStation_eq (x : Station) : s.enterStation x =
    ((s.moveTo x).andIf (s.member.station == .online) leftOnline).entered := rfl

theorem moveTo_changes (x : Station) :
    s.sameBut [.station, .stationTimers, .wire, .responder, .restarts] (s.moveTo x) :=
  ((s.onMember_station_changes _ rfl).mono (by decide)).trans ((purgeQueue_changes _).mono (by decide))

/-- The station state and its timers after the change; nothing else moves the line-quiet timer. -/
theorem moveTo_station (x : Station) : (s.moveTo x).member.station = x ∧
    (s.moveTo x).member.joinWindow = .stopped ∧ (s.moveTo x).member.rollCallWait = .stopped ∧
    (s.moveTo x).member.duplicateHold = .stopped ∧
    (s.moveTo x).member.lineQuiet = s.member.lineQuiet := by
  have purged := (s.onMember fun m => { m with
    station := x, joinWindow := .stopped, rollCallWait := .stopped, duplicateHold := .stopped
    }).purgeQueue_changes
  have station : (s.moveTo x).member.station = x := purged.of_not_mem (i := .station) (by decide)
  obtain ⟨join, wait, hold, quiet⟩ := purged.of_not_mem (i := .stationTimers) (by decide)
  exact ⟨station, join, wait, hold, quiet⟩

/-! ### The part as a whole -/

theorem configured_changes (l : Load) : s.sameBut [.fixed] (s.configured l) := by
  intro i; cases i <;> simp [Item.same, configured]

theorem takeProduct_changes :
    s.sameBut [.setpoints, .wire, .shareResult, .drive] s.takeProduct := by
  have figures : s.sameBut [.setpoints, .wire] { s with
      setpoints := { figures := homeFigures s.cfg, home := homeFigures s.cfg }
      line := { s.line with sequence := s.address } } := by
    intro i; cases i <;> simp [Item.same]
  have stored (u : State) (r : ShareRecord) (p : Nat) : u.sameBut [.shareResult]
      (u.onShare fun x => { x with standing := p, record := r }) := by
    intro i; cases i <;> simp [Item.same]
  exact ((figures.mono (by decide)).trans ((stored _ _ _).mono (by decide))).trans
    ((sameBut_of_drives (handTarget_frame _ _)).mono (by decide))

theorem startTimers_changes : s.sameBut [.aging, .sample, .plantTimer] s.startTimers := by
  unfold startTimers
  extract_lets s1
  have begun : s.sameBut [.aging, .sample, .plantTimer] s1 := by
    intro i; cases i <;> simp [Item.same, s1]
  refine begun.trans (sameBut_andIf (fun u => ?_) _ _)
  intro i; cases i <;> simp [Item.same]

theorem compareContacts_changes : s.sameBut [.contacts] s.compareContacts :=
  (sameBut_andIf (fun u => u.onContact_changes _ _) _ _).trans
    (sameBut_andIf (fun u => u.onContact_changes _ _) _ _)

/-- What the end of START reaches once the product has been taken. -/
theorem endStart_rest_changes (image : List Byte) :
    (s.configured (load s.role image)).takeProduct.sameBut
      ([.aging, .sample, .plantTimer, .contacts] ++ stationItems) (s.endStart image) :=
  (((startTimers_changes _).mono (by decide)).trans
    ((compareContacts_changes _).mono (by decide))).trans ((enterStation_changes _ _).mono (by decide))

/-- What the end of START reaches. -/
abbrev startItems : List Item :=
  [.fixed, .setpoints, .shareResult, .drive, .aging, .sample, .plantTimer, .contacts] ++ stationItems

theorem endStart_changes (image : List Byte) : s.sameBut startItems (s.endStart image) :=
  (((s.configured_changes _).mono (by decide)).trans
    ((takeProduct_changes _).mono (by decide))).trans ((s.endStart_rest_changes image).mono (by decide))

end State

/-! ### The footprint of each command -/

/-- What the serving of a request reaches, whose own work reaches `work`. -/
def serveItems (work : List Item) : List Item :=
  .pair :: work ++ State.answerItems ++ State.stationItems

/-- The items a command can change; none are said of RESET and RESET_ASSERTED, which set them all. -/
def touches : Instr → Option (List Item)
  | .reset _ _ _ _ | .resetAsserted => none
  | .startEnd _ => some (.clock :: State.startItems)
  | .joinWindowExpiry | .rollCallWaitExpiry | .duplicateHoldExpiry =>
    some (.clock :: State.stationItems)
  | .agingExpiry => some (.clock :: .aging :: .waits :: State.tableItems)
  | .lineQuietExpiry => some [.clock, .stationTimers, .memberLatches]
  | .announce | .plantStatus => some (.pair :: State.recordItems)
  | .rollCall => some (serveItems [])
  | .present | .setpointReply | .result => some (.pair :: State.stationItems)
  | .setpoint => some (serveItems [.setpoints, .demand])
  | .unknownKindFrame => some [.pair, .latches]
  | .tableWriteApplied => some State.recordItems
  | .snapshotEnd _ => some (.clock :: .waits :: State.tableItems)
  | .peer | .share | .plant => some (serveItems [])
  | .status => some (serveItems [.memberLatches, .contacts, .drive])
  | .dump => some (serveItems [])
  | .clear _ | .rehome _ | .hold _ => some (serveItems [.drive])
  | .restart => some (serveItems [])
  | .restartCarriedOut => some (.waits :: .roster :: State.stationItems)
  | .dumpNextResult => some State.responderItems
  | .sampleTimerExpiry _ _ =>
    some [.clock, .sample, .channels, .demand, .shareFlight, .wire, .announcer, .sequencer,
      .plantFlight]
  | .contactLevelChange _ _ => some [.contacts]
  | .debounceExpiry _ =>
    some [.clock, .contacts, .demand, .shareFlight, .wire, .announcer, .sequencer, .plantFlight]
  | .announcePeriodExpiry | .spacingExpiry | .statusPeriodExpiry | .statusSpacingExpiry =>
    some [.clock, .wire, .announcer]
  | .shareReckoningEnd _ =>
    some [.clock, .shareFlight, .shareResult, .unplaced, .drive, .wire, .announcer]
  | .alignmentEnd _ | .homingStep _ _ | .moveStep _ _ | .holdTimerExpiry _ =>
    some [.clock, .drive, .wire, .announcer]
  | .settleEnd => some [.clock, .drive]
  | .plantTimerExpiry =>
    some [.clock, .plantTimer, .sequencer, .plantFlight, .shareFlight, .wire, .announcer]
  | .plantReckoningEnd =>
    some [.clock, .sequencer, .plantFlight, .shareFlight, .wire, .announcer]
  | .minOnExpiry | .minOffExpiry | .dwellExpiry | .changeoverPauseExpiry | .frostTimerExpiry
  | .tripTimerExpiry | .defrostOverlongExpiry => some [.clock, .sequencer, .plantFlight]
  | .receivedFrame _ | .framingError _ _ | .truncated _ | .length _ | .lostAttempt _ _ _ =>
    some State.lineItems
  | .attemptStart _ => some [.wire, .latches, .announcer]
  | .transmissionComplete => some [.wire, .announcer, .stationTimers, .responder, .restarts]
  | .stuck | .stuckEnd => some [.wire, .latches]

open State in
/-- A command changes only what its footprint lists. -/
theorem exec_changes {c : Instr} {s t : State} {items : List Item} (hc : touches c = some items)
    (h : exec c s = .next t) : s.sameBut items t := by
  cases c <;> cases hc <;> cases h
  case startEnd image =>
    exact sameBut_takeExpiry (fun u => sameBut_andIf (fun v => (v.endStart_changes image).mono
      (by decide)) _ _) _ _ (by decide)
  case joinWindowExpiry | rollCallWaitExpiry | duplicateHoldExpiry =>
    exact sameBut_takeExpiry (fun u => (u.enterStation_changes _).mono (by decide)) _ _ (by decide)
  case agingExpiry =>
    refine sameBut_takeExpiry (fun u => ?_) _ _ (by decide)
    have again : u.sameBut (.clock :: .aging :: .waits :: tableItems)
        (u.onMember fun m => { m with aging := u.timer Config.agingMs }) := by
      intro i; cases i <;> simp [Item.same]
    dsimp only
    split_ifs
    · exact again.trans ((onMember_waits_changes _ _ rfl).mono (by decide))
    · exact again.trans ((tableBecomes_changes _ _ _).mono (by decide))
  case lineQuietExpiry =>
    exact sameBut_takeExpiry (fun u i => by cases i <;> simp [Item.same]) _ _ (by decide)
  case announce | plantStatus =>
    exact sameBut_takeFrame (fun f u => (u.handRecord_changes f).mono (by decide)) (by decide)
  case rollCall =>
    refine sameBut_takeFrame (fun f u => ?_) (by decide)
    unfold heardRollCall
    split_ifs
    · exact (u.placeReply_changes _ _ _ _).mono (by decide)
    · exact u.duplicateEvidence_changes.mono (by decide)
    · exact u.sameBut_refl _
  case present | setpointReply | result =>
    exact sameBut_takeFrame (fun f u => (u.judgeSource_changes f).mono (by decide)) (by decide)
  case setpoint =>
    exact sameBut_takeFrame (fun f u => ((u.applySetpoint_changes f).mono (by decide)).trans
      ((judgeSource_changes _ f).mono (by decide))) (by decide)
  case unknownKindFrame =>
    exact sameBut_takeFrame (fun f u => (u.onLatches_changes _).mono (by decide)) (by decide)
  case tableWriteApplied => exact sameBut_take applyWaitingWrite_changes s
  case snapshotEnd unit => exact sameBut_take (fun u => u.endSnapshot_changes unit) s
  case peer | share | plant =>
    exact (sameBut_serve fun f u => u.answer_changes _ _ _ _).mono (by decide)
  case status => exact (sameBut_serve fun f u => u.reportStatus_changes f).mono (by decide)
  case dump => exact (sameBut_serve fun f u => u.buildDump_changes _).mono (by decide)
  case clear endStop =>
    exact (sameBut_serve fun f u => u.carryClear_changes f endStop).mono (by decide)
  case rehome endStop =>
    exact (sameBut_serve fun f u => u.carryRehome_changes f endStop).mono (by decide)
  case hold endStop =>
    exact (sameBut_serve fun f u => u.carryHold_changes f endStop).mono (by decide)
  case restart => exact (sameBut_serve fun f u => u.carryRestart_changes f).mono (by decide)
  case restartCarriedOut => exact sameBut_take carryOutRestart_changes s
  case dumpNextResult => exact sameBut_take continueDump_changes s
  case sampleTimerExpiry a b =>
    refine sameBut_takeExpiry (fun u => ?_) _ _ (by decide)
    refine sameBut.trans (t := u.onSensing fun g => { g with sample := u.timer Config.sampleMs })
      (fun i => by cases i <;> simp [Item.same]) ?_
    exact ((sampleChannels_changes _ _ _).mono (by decide)).trans
      ((handOver_changes _ _).mono (by decide))
  case contactLevelChange c level => exact sameBut_take (fun u => u.levelChange_changes c level) s
  case debounceExpiry c =>
    exact sameBut_takeExpiry (fun u => (u.debounced_changes c).mono (by decide)) _ _ (by decide)
  case announcePeriodExpiry | statusPeriodExpiry =>
    exact sameBut_andIf (fun u => sameBut_takeExpiry (fun v => v.periodExpired_changes.mono
      (by decide)) _ _ (by decide)) _ _
  case spacingExpiry | statusSpacingExpiry =>
    exact sameBut_andIf (fun u => sameBut_takeExpiry (fun v => v.spacingExpired_changes.mono
      (by decide)) _ _ (by decide)) _ _
  case shareReckoningEnd endStop => exact sameBut_take (fun u => u.shareEnds_changes endStop) s
  case alignmentEnd endStop =>
    exact sameBut_takeExpiry (fun u => sameBut_andIf (fun v => (v.promptedDrive_changes
      (drives_trans (drives_trans (v.onDrive_frame _) (onDrive_frame _ _))
        (enterHoming_frame _ _))).mono (by decide)) _ _) _ _ (by decide)
  case homingStep stall endStop =>
    exact sameBut_takeExpiry (fun u => sameBut_andIf (fun v => (v.promptedDrive_changes
      (drives_trans (v.onDrive_frame _) (homingStep_frame _ _))).mono (by decide)) _ _) _ _
      (by decide)
  case moveStep stall endStop =>
    exact sameBut_takeExpiry (fun u => (u.moves_changes stall endStop).mono (by decide)) _ _
      (by decide)
  case settleEnd =>
    exact sameBut_takeExpiry (fun u => (u.onDrive_changes _).mono (by decide)) _ _ (by decide)
  case holdTimerExpiry endStop =>
    exact sameBut_takeExpiry (fun u => (u.promptedDrive_changes (drives_trans (u.onDrive_frame _)
      (endHold_frame _))).mono (by decide)) _ _ (by decide)
  case plantTimerExpiry =>
    refine sameBut_takeExpiry (fun u => ?_) _ _ (by decide)
    refine sameBut.trans (t := u.onPlant fun p => { p with timer := u.timer Config.plantMs })
      (fun i => by cases i <;> simp [Item.same]) ?_
    exact (((slewStep_changes _).mono (by decide)).trans ((boostStep_changes _).mono
      (by decide))).trans ((plantTrigger_changes _).mono (by decide))
  case plantReckoningEnd => exact sameBut_take plantEnds_changes s
  case minOnExpiry | dwellExpiry | changeoverPauseExpiry =>
    exact sameBut_takeExpiry (fun u => u.onArb_trigger_changes _) _ _ (by decide)
  case minOffExpiry =>
    exact sameBut_andIf (fun u => sameBut_takeExpiry (fun v => v.onArb_trigger_changes _) _ _
      (by decide)) _ _
  case frostTimerExpiry | tripTimerExpiry | defrostOverlongExpiry =>
    exact sameBut_takeExpiry (fun u => u.onProt_trigger_changes _) _ _ (by decide)
  case receivedFrame bytes | length bytes =>
    exact sameBut_take (fun u => sameBut_andIf (fun v => v.hearRun_changes bytes) _ _) s
  case framingError n lineHeld =>
    exact sameBut_take (fun u => sameBut_andIf (fun v => v.framingError_changes n lineHeld) _ _) s
  case truncated bytes =>
    exact sameBut_take (fun u => sameBut_andIf (fun v => (v.hearRun_changes bytes).trans
      ((truncate_changes _).mono (by decide))) _ _) s
  case attemptStart n =>
    refine sameBut_take (fun u => ?_) s
    split
    · exact u.startAttempt_changes _
    · exact u.sameBut_refl _
  case transmissionComplete =>
    refine sameBut_take (fun u => ?_) s
    split
    · exact u.completeSending_changes _
    · exact u.sameBut_refl _
  case lostAttempt matched wrong goesOn =>
    refine sameBut_take (fun u => ?_) s
    split
    · exact u.echoDiffers_changes _ _ _ _
    · exact u.sameBut_refl _
  case stuck =>
    exact sameBut_take (fun u => sameBut_andIf (fun v i => by cases i <;> simp [Item.same]) _ _) s
  case stuckEnd =>
    exact sameBut_take (fun u => sameBut_andIf (fun v => ((v.onLine_changes _ (by simp)).trans
      (beginWait_changes _)).mono (by decide)) _ _) s

end Sys2Proof.Machine
end

section
/-! PROOF. What every step keeps, and what a command whose footprint lies elsewhere keeps. -/

namespace Sys2Proof.Machine

/-- A property that neither the clock nor the waiting commands bear on is kept by every step if every
command keeps it. -/
theorem step_keeps {P : State → Prop}
    (wait : ∀ (s : State) (n : Nat) (rest : List Instr), P s → P { s with now := n, pending := rest })
    (run : ∀ (c : Instr) (s t : State), P s → exec c s = .next t → P t) (s t : State) (h : P s)
    (hstep : step s = .next t) : P t := by
  rcases step_cases hstep with ⟨-, rfl⟩ | ⟨c, rest, -, hexec⟩
  · unfold State.tick
    split
    · exact h
    · exact wait s _ s.pending h
  · exact run c _ t (wait s s.now rest h) hexec

/-- What taking an event keeps. -/
theorem State.take_keeps {P : State → Prop} {act : State → State} (h : ∀ s, P s → P (act s))
    (s : State) (hs : P s) : P (s.take act) := by
  rcases s.take_cases act with ⟨-, k⟩ | ⟨-, k⟩ <;> rw [k]
  · exact hs
  · exact h s hs

/-- What taking an expiry keeps: the act may assume that the timer ran. -/
theorem State.takeExpiry_keeps {P : State → Prop} {act : State → State} {s : State} {timer : Timer}
    (hs : P s) (h : ∀ d, timer = .running d → P (act (s.reach d))) : P (s.takeExpiry timer act) := by
  rcases s.takeExpiry_cases timer act with k | ⟨d, hd, -, k⟩ <;> rw [k]
  · exact hs
  · exact h d hd

/-- What a conditional operation keeps: its act may assume the condition. -/
theorem State.andIf_keeps_of {P : State → Prop} {act : State → State} {s : State} {c : Bool} (hs : P s)
    (h : c = true → P (act s)) : P (s.andIf c act) := by
  cases c
  · exact hs
  · exact h rfl

/-- What the frame handler's taking of a frame keeps. -/
theorem State.takeFrame_keeps {P : State → Prop} {named : Frame → Bool} {act : Frame → State → State}
    (taken : ∀ (s : State) (rest : List Frame), P s → P (s.onLine fun l => { l with pair := rest }))
    (h : ∀ f s, named f = true → P s → P (act f s)) (s : State) (hs : P s) :
    P (s.takeFrame named act) := by
  refine State.take_keeps (fun u hu => ?_) s hs
  split
  · split
    · rename_i hf
      dsimp only
      split
      · exact taken u _ hu
      · exact h _ _ hf (taken u _ hu)
    · exact hu
  · exact hu
  · exact hu

/-- What the serving of a request keeps. -/
theorem State.serve_keeps {P : State → Prop} {r : Request} {carry : Frame → State → State}
    (taken : ∀ (s : State) (rest : List Frame), P s → P (s.onLine fun l => { l with pair := rest }))
    (answer : ∀ s f code figures use, P s → P (State.answer s f code figures use).1)
    (judge : ∀ s f, P s → P (State.judgeSource s f))
    (carried : ∀ f s, P s → P (carry f s)) (s : State) (hs : P s) : P (s.serve r carry) := by
  refine State.takeFrame_keeps taken (fun f u _ hu => judge _ f ?_) s hs
  unfold State.respond
  split
  · exact hu
  · split
    · exact answer _ _ _ _ _ hu
    · exact carried f u hu

/-! ### The damper drive (R84 to R96) -/

/-- The drive between two of its states: out of FAULT and out of the alignment, its counters in their
ranges. -/
def Drive.ready (d : Drive) : Prop :=
  d.cause = .none ∧ d.alignment.isRunning = false ∧ d.target ≤ 1200 ∧ d.stallCount ≤ 1 ∧
  d.sinceStop ≤ 1320 ∧ d.completed ≤ 255 ∧ d.slipCount ≤ 255

/-- A drive that is homing or homed is ready. -/
theorem Drive.ready_of_wf {d : Drive} (h : d.wf) (hu : d.state ≠ .unhomed) (hf : d.state ≠ .fault) :
    d.ready := by
  grind [Drive.ready]

theorem wrap256_le (n : Nat) : wrap256 n ≤ 255 := by unfold wrap256; omega

theorem saturate_le {n limit : Nat} : saturate n limit ≤ limit := Nat.min_le_left ..

theorem State.homingFound_wf {s : State} (h : s.drive.ready) (hs : s.drive.stuckSteps < 24) :
    s.homingFound.drive.wf := by
  obtain ⟨cause, alignment, target, stall, since, completed, slip⟩ := h
  have wrapped := wrap256_le s.drive.completed
  by_cases ht : s.drive.target = 0 <;> cases hr : s.drive.retry <;>
    simp [homingFound, ht, hr, enterIdle, enterMoving, armStep, State.timer, Drive.countMove, Drive.wf,
      cause, alignment] <;> grind [Timer.isRunning_running]

theorem State.enterHoming_wf {s : State} (h : s.drive.ready) (retry : Bool) :
    (s.enterHoming retry).drive.wf := by
  unfold enterHoming
  extract_lets s1
  have ready : s1.drive.ready := h
  have steps : s1.drive.stuckSteps = 0 := rfl
  split
  · exact s1.homingFound_wf ready (by omega)
  · obtain ⟨cause, alignment, target, stall, since, completed, slip⟩ := ready
    simp [s1, armStep, State.timer, Drive.wf] at *
    grind [Timer.isRunning_running]

/-- FAULT is entered from any state by a drive whose counters are in their ranges. -/
theorem State.enterFault_wf {s : State} {c : FaultCause} (hc : c ≠ .none)
    (alignment : s.drive.alignment.isRunning = false) (aligned : s.drive.aligned = false)
    (target : s.drive.target ≤ 1200) (stall : s.drive.stallCount ≤ 2)
    (since : s.drive.sinceStop ≤ 1320) (stuck : s.drive.stuckSteps ≤ 24)
    (completed : s.drive.completed ≤ 255) (slip : s.drive.slipCount ≤ 255) :
    (s.enterFault c).drive.wf := by
  simp [enterFault, Drive.wf]
  grind

theorem State.completeMove_wf {s : State} (h : s.drive.ready)
    (hc : s.drive.count = some s.drive.target) (hs : s.drive.stuckSteps < 24)
    (ha : s.drive.aligned = false) : s.completeMove.drive.wf := by
  unfold completeMove
  extract_lets s1
  obtain ⟨cause, alignment, target, stall, since, completed, slip⟩ := h
  have wrapped := wrap256_le s.drive.completed
  split
  · refine enterHoming_wf (s := s1.onDrive _) ?_ false
    exact ⟨cause, alignment, target, Nat.zero_le 1, since, wrapped, slip⟩
  · simp [s1, enterIdle, Drive.countMove, Drive.wf]
    grind

theorem State.leaveFault_wf {s : State} (h : s.drive.wf) (hs : s.drive.state = .fault) :
    s.leaveFault.drive.wf := by
  refine enterHoming_wf ?_ false
  simp [Drive.ready]
  grind

theorem State.homeRequest_wf {s : State} (h : s.drive.wf) : s.homeRequest.drive.wf := by
  unfold homeRequest
  split
  · exact h
  · exact h
  · rename_i hs
    exact enterHoming_wf (Drive.ready_of_wf h (by simp [hs]) (by simp [hs])) false
  · rename_i hs
    refine enterHoming_wf ?_ false
    have ready := Drive.ready_of_wf h (by simp [hs]) (by simp [hs])
    simp [Drive.ready] at *
    grind
  · exact leaveFault_wf h ‹_›

theorem State.takeTarget_wf {s : State} {x : Nat} (h : s.drive.wf) (hx : x ≤ 1200) :
    (s.takeTarget x).drive.wf := by
  unfold takeTarget
  extract_lets s1
  split <;> rename_i hs
  · simp [s1, Drive.wf] at *; grind
  · simp [s1, Drive.wf] at *; grind
  · simp [s1, Drive.wf] at *; grind
  · have ready : s1.drive.ready := by
      have old := Drive.ready_of_wf h (by simp [hs]) (by simp [hs])
      simp [s1, Drive.ready] at *
      grind
    split_ifs with hc hr
    · simp [s1, Drive.wf] at *; grind
    · exact enterHoming_wf ready false
    · simp [s1, enterMoving, armStep, State.timer, Drive.wf] at *
      grind [Timer.isRunning_running]
  · have ready : s1.drive.ready := by
      have old := Drive.ready_of_wf h (by simp [hs]) (by simp [hs])
      simp [s1, Drive.ready] at *
      grind
    split_ifs with hc
    · refine completeMove_wf ready ?_ ?_ ?_ <;> simp [s1, Drive.wf] at * <;> grind
    · simp [s1, Drive.wf] at *; grind

theorem State.homingStep_wf {s : State} (h : s.drive.wf) (hs : s.drive.state = .homing)
    (stall : Bool) : (s.homingStep stall).drive.wf := by
  have ready := Drive.ready_of_wf h (by simp [hs]) (by simp [hs])
  unfold homingStep
  extract_lets s1
  split_ifs
  · refine enterFault_wf (by simp) ?_ ?_ ?_ ?_ ?_ ?_ ?_ ?_ <;>
      simp [s1, Drive.issue, Drive.ready] at * <;> grind
  · refine enterFault_wf (by simp) ?_ ?_ ?_ ?_ ?_ ?_ ?_ ?_ <;>
      simp [s1, Drive.issue, Drive.ready] at * <;> grind
  · refine homingFound_wf ready ?_
    simp [s1, Drive.issue] at *
    grind
  · refine enterFault_wf (by simp) ?_ ?_ ?_ ?_ ?_ ?_ ?_ ?_ <;>
      simp [s1, Drive.issue, Drive.ready] at * <;> grind
  · simp [s1, armStep, Drive.issue, State.timer, Drive.wf] at *
    grind [Timer.isRunning_running]

/-- What a drive in MOVING with its step issued is worth: ready, its step running, its pattern no
longer the alignment's. -/
def Drive.underway (d : Drive) : Prop :=
  d.ready ∧ d.state = .moving ∧ d.step.isRunning = true ∧ d.aligned = false ∧ d.retry = false ∧
    d.settle.isRunning = false

/-- A drive underway whose steps have been judged, but for the end of its move, is coherent where its
count is not its target. -/
theorem Drive.wf_of_underway {d : Drive} {p : Nat} (h : d.underway) (hc : d.count = some p)
    (hp : p ≤ 1200) (ht : p ≠ d.target) (hs : d.stuckSteps < 24) : d.wf := by
  obtain ⟨ready, moving, step, aligned, retry, settle⟩ := h
  simp [Drive.ready] at ready
  simp [Drive.wf]
  grind

theorem State.moveStalled_wf {s : State} (h : s.drive.underway) (hs : s.drive.stuckSteps ≤ 24) :
    s.moveStalled.drive.wf := by
  obtain ⟨ready, moving, step, aligned, retry, settle⟩ := h
  unfold moveStalled
  split_ifs
  · refine enterHoming_wf ?_ true
    simp [Drive.ready] at *
    grind
  · refine enterFault_wf (by simp) ?_ ?_ ?_ ?_ ?_ ?_ ?_ ?_ <;> simp [Drive.ready] at * <;> grind

/-- Stages 2 and 3 of a step move the count by one place, or to 0 at the end-stop. -/
theorem Drive.openingStep_underway {d : Drive} {p : Nat} (h : d.underway) (hp : p < d.target)
    (hs : d.stuckSteps < 24) : (d.openingStep p).underway ∧ (d.openingStep p).stuckSteps ≤ 24 ∧
      ∃ q, (d.openingStep p).count = some q ∧ q ≤ 1200 := by
  have most := saturate_le (n := d.sinceStop) (limit := 1320)
  unfold Drive.openingStep
  split <;> simp [Drive.underway, Drive.ready] at * <;> grind

theorem Drive.closingStep_underway {d : Drive} {p : Nat} (h : d.underway) (hp : p ≤ 1200) :
    (d.closingStep p).underway ∧ (d.closingStep p).stuckSteps ≤ 24 ∧
      ∃ q, (d.closingStep p).count = some q ∧ q ≤ 1200 := by
  have most := saturate_le (n := d.sinceStop) (limit := 1320)
  have slips := saturate_le (n := d.slipCount) (limit := 255)
  unfold Drive.closingStep
  split <;> simp [Drive.underway, Drive.ready] at * <;> grind

theorem Drive.count_le_of_wf {d : Drive} {p : Nat} (h : d.wf) (hc : d.count = some p) : p ≤ 1200 := by
  obtain ⟨-, -, count, -⟩ := h
  exact count p hc

theorem State.moveStep_wf {s : State} {p : Nat} (h : s.drive.wf) (hs : s.drive.state = .moving)
    (hc : s.drive.count = some p) (stall : Bool) : (s.moveStep p stall).drive.wf := by
  have ready := Drive.ready_of_wf h (by simp [hs]) (by simp [hs])
  have stuck : s.drive.stuckSteps < 24 ∧ p ≤ 1200 := ⟨by grind, Drive.count_le_of_wf h hc⟩
  unfold moveStep
  extract_lets opening s1 s2
  have issued : s1.drive.underway := by
    simp [Drive.underway, s1, armStep, Drive.issue, State.timer, Drive.ready] at *
    grind
  have stepped : s2.drive.underway ∧ s2.drive.stuckSteps ≤ 24 ∧
      ∃ q, s2.drive.count = some q ∧ q ≤ 1200 := by
    cases way : opening
    · rw [show s2.drive = s1.drive.closingStep p by simp [s2, way]]
      exact Drive.closingStep_underway issued stuck.2
    · rw [show s2.drive = s1.drive.openingStep p by simp [s2, way]]
      exact Drive.openingStep_underway issued (of_decide_eq_true way) stuck.1
  obtain ⟨underway, most, q, hq, le⟩ := stepped
  split_ifs with hstall hstuck hcount
  · exact moveStalled_wf issued stuck.1.le
  · obtain ⟨ready, moving, step, aligned, retry, settle⟩ := underway
    refine enterFault_wf (by simp) ?_ ?_ ?_ ?_ ?_ ?_ ?_ ?_ <;> simp [Drive.ready] at * <;> grind
  · exact completeMove_wf underway.1 (by simpa using hcount) (by omega) underway.2.2.2.1
  · exact Drive.wf_of_underway underway hq le (by simpa [hq] using hcount) (by omega)

theorem State.handTarget_wf {s : State} {x : Nat} (h : s.drive.wf) (hx : x ≤ 1200) :
    (s.handTarget x).drive.wf := by
  unfold handTarget
  split
  · exact h
  · exact takeTarget_wf h hx

theorem State.endHold_wf {s : State} (h : s.drive.wf) (hs : s.share.standing ≤ 1200) :
    s.endHold.drive.wf := takeTarget_wf (s := s.onDrive _) h hs

theorem State.startHold_wf {s : State} {x : Nat} (h : s.drive.wf) (hx : x ≤ 1200) :
    (s.startHold x).drive.wf := takeTarget_wf (s := s.onDrive _) h hx

theorem State.clearDrive_wf {s : State} (h : s.drive.wf) (hs : s.share.standing ≤ 1200) :
    s.clearDrive.drive.wf := by
  unfold clearDrive
  extract_lets s1 s2
  have unheld : s2.drive.wf := by
    rcases s1.andIf_cases s1.drive.hold.isRunning endHold with ⟨-, k⟩ | ⟨-, k⟩ <;> unfold s2 <;> rw [k]
    · exact endHold_wf (s := s1) h hs
    · exact h
  rcases s2.andIf_cases (s2.drive.state == .fault) leaveFault with ⟨hf, k⟩ | ⟨-, k⟩ <;> rw [k]
  · exact leaveFault_wf unheld (by simpa using hf)
  · exact unheld

/-! ### The positions that can be handed to the drive (R66, R67, R77, R78, R82) -/

/-- A table position lies between its two entries. -/
theorem lookup_le {table : List Nat} {m : Nat} (h : ∀ x ∈ table, x ≤ m) {fraction : Nat}
    (hf : fraction ≤ 1000) : lookup table fraction ≤ m := by
  have entry (k : Nat) : table.getD k 0 ≤ m := by
    rw [List.getD_eq_getElem?_getD]
    cases hk : table[k]? with
    | none => exact Nat.zero_le m
    | some x => exact h x (List.mem_of_getElem? hk)
  unfold lookup
  extract_lets k rem low
  have low_le : low ≤ m := entry k
  have high_le := entry (k + 1)
  have part : (table.getD (k + 1) 0 - low) * rem / 125 ≤ table.getD (k + 1) 0 - low := by
    refine Nat.div_le_of_le_mul ?_
    rw [mul_comm]
    exact Nat.mul_le_mul_right _ (by omega)
  omega

theorem fractionOf_le (airflow design : Nat) : fractionOf airflow design ≤ 1000 := Nat.min_le_left ..

/-- The positions of the configuration lie within the travel. -/
def positionsWf (c : Config.Product) : Prop :=
  c.fallback ≤ 1200 ∧ c.posMin ≤ 1200 ∧ ∀ x ∈ c.table, x ≤ 1200

theorem zonePosition_le {c : Config.Product} (h : positionsWf c) (served : Bool) (target : Nat)
    {fraction : Nat} (hf : fraction ≤ 1000) : (zonePosition c served target fraction).2 ≤ 1200 := by
  obtain ⟨-, posMin, table⟩ := h
  unfold zonePosition
  split
  · exact posMin
  · exact max_le posMin (lookup_le table hf)

theorem bypassTarget_le {c : Config.Product} (h : positionsWf c) (u : Nat) :
    (bypassTarget c u).2 ≤ 1200 := by
  unfold bypassTarget
  split_ifs
  · exact Nat.zero_le _
  · exact Nat.zero_le _
  · exact lookup_le h.2.2 (fractionOf_le _ _)

theorem shareOutcome_position_le {role : Role} {c : Config.Product} {f : ShareSnapshot} {p : Nat}
    (h : positionsWf c) (hp : (shareOutcome role c f).position = some p) : p ≤ 1200 := by
  have fallback (cause : ShareCause) (hp : (fallbackRecord c f cause).position = some p) :
      p ≤ 1200 := Option.some.inj hp ▸ h.1
  unfold shareOutcome at hp
  split_ifs at hp
  · exact fallback _ hp
  · split at hp
    · exact fallback _ hp
    · exact fallback _ hp
    · split_ifs at hp
      · cases hp
      · cases hp
      · cases hp
      · cases role <;> cases hp
        · exact zonePosition_le h _ _ (fractionOf_le _ _)
        · exact bypassTarget_le h _

/-! ### The commands that reach the drive -/

theorem State.driveWf_of_sameBut {s t : State} {a : List Item} (h : s.sameBut a t)
    (hd : .drive ∉ a) (hr : .shareResult ∉ a) (hf : .fixed ∉ a) (hs : s.DriveWf) : t.DriveWf := by
  have drive : t.drive = s.drive := h.of_not_mem hd
  obtain ⟨-, standing⟩ := h.of_not_mem hr
  obtain ⟨-, -, -, cfg, -⟩ := h.of_not_mem hf
  unfold State.DriveWf
  rwa [drive, standing, cfg]

/-- A drive that a command has moved, the rest of its footprint lying elsewhere. -/
theorem State.driveWf_of_drive {s t : State} {a : List Item} (h : s.sameBut a t)
    (hr : .shareResult ∉ a) (hf : .fixed ∉ a) (hs : s.DriveWf) (hd : t.drive.wf) : t.DriveWf := by
  obtain ⟨-, standing⟩ := h.of_not_mem hr
  obtain ⟨-, -, -, cfg, -⟩ := h.of_not_mem hf
  obtain ⟨-, standingLe, rest⟩ := hs
  exact ⟨hd, by rw [standing]; exact standingLe, by rwa [cfg]⟩

theorem State.sameBut.drive_eq {s t : State} {a : List Item} (h : s.sameBut a t) (hd : .drive ∉ a) :
    t.drive = s.drive := h.of_not_mem hd

theorem Drive.wf_phasesOff {d : Drive} (h : d.wf) : ({ d with phasesOn := false } : Drive).wf := by
  simp [Drive.wf, Drive.stateWf] at *
  grind

theorem Drive.wf_settled {d : Drive} (h : d.wf) :
    ({ d with settle := .stopped, phasesOn := false } : Drive).wf := by
  simp [Drive.wf, Drive.stateWf] at *
  grind [Timer.isRunning_stopped]

/-- The alignment's end leaves the drive ready for its homing run. -/
theorem Drive.ready_of_aligned {d : Drive} (h : d.wf) (hs : d.state = .unhomed) (endStop : Bool) :
    ({ d with endStop, alignment := .stopped } : Drive).ready := by
  simp [Drive.ready]
  grind

theorem Drive.wf_reset {fallback : Nat} (h : fallback ≤ 1200) : (Drive.reset fallback).wf := by
  simp [Drive.reset, Drive.wf, Drive.stateWf, h]

theorem State.driveWf_released (role : Role) (a : Nat) (x y : Level) :
    (State.released role a x y).DriveWf :=
  ⟨Drive.wf_reset (by decide), (by decide : (1200 : Nat) ≤ 1200), (by decide : (1200 : Nat) ≤ 1200),
    (by decide : (60 : Nat) ≤ 1200), (by decide : ∀ x ∈ Config.straightLine, x ≤ 1200)⟩

/-- The drive coherent, and the positions that can be handed to it within the travel. -/
theorem State.driveWf_iff (s : State) :
    s.DriveWf ↔ s.drive.wf ∧ s.share.standing ≤ 1200 ∧ positionsWf s.cfg := Iff.rfl

open State in
theorem State.endShare_driveWf {s : State} (h : s.DriveWf) (f : ShareFlight) :
    (s.endShare f).DriveWf := by
  obtain ⟨drive, standing, positions⟩ := s.driveWf_iff.mp h
  have position {p : Nat} (hp : (s.shareResult f).position = some p) : p ≤ 1200 :=
    shareOutcome_position_le positions hp
  unfold endShare
  extract_lets out s1 s2
  have stands : out.position.getD s.share.standing ≤ 1200 := by
    cases hp : out.position with
    | none => exact standing
    | some p => exact position hp
  have stored : s1.DriveWf := by
    refine driveWf_of_sameBut (handUnplaced_changes _ _) (by decide) (by decide) (by decide) ?_
    exact ⟨drive, stands, positions⟩
  have handed : s2.DriveWf := by
    unfold s2
    split
    · rename_i p hp _
      exact driveWf_of_drive (sameBut_of_drives (s1.handTarget_frame p)) (by decide) (by decide) stored
        (handTarget_wf stored.1 (position hp))
    · exact stored
  exact driveWf_of_sameBut (sameBut_andIf beginShare_changes _ _) (by decide) (by decide) (by decide)
    handed

open State in
theorem State.endStart_driveWf {s : State} (h : s.DriveWf) (image : List Byte) :
    (s.endStart image).DriveWf := by
  obtain ⟨drive, standing, -⟩ := s.driveWf_iff.mp h
  have loaded : positionsWf (load s.role image).product := by
    obtain ⟨-, -, table, fallback, -, -, -, -, posMin, -⟩ := productWf_load s.role image
    exact ⟨fallback, by omega, table⟩
  have taken : (s.configured (load s.role image)).takeProduct.DriveWf :=
    driveWf_of_drive (sameBut_of_drives (handTarget_frame _ _)) (by decide) (by decide)
      (s := State.onShare _ _) ⟨drive, loaded.1, loaded⟩ (handTarget_wf drive loaded.1)
  exact driveWf_of_sameBut (s.endStart_rest_changes image) (by decide) (by decide) (by decide) taken

open State in
/-- Every command keeps the drive coherent: those whose footprint does not reach it leave it, the
others move it by the drive's own operations. -/
theorem exec_driveWf (c : Instr) (s t : State) (h : s.DriveWf) (hexec : exec c s = .next t) :
    t.DriveWf := by
  by_cases spared : ∃ a, touches c = some a ∧ .drive ∉ a ∧ .shareResult ∉ a ∧ .fixed ∉ a
  · obtain ⟨a, ha, hd, hr, hf⟩ := spared
    exact driveWf_of_sameBut (exec_changes ha hexec) hd hr hf h
  have drive (u : State) (hu : u.DriveWf) {v w : State} (hv : u.drives v) (hw : v.drive.wf) :
      (v.promptFlags w).DriveWf :=
    driveWf_of_sameBut (v.promptFlags_changes w) (by decide) (by decide) (by decide)
      (driveWf_of_drive (sameBut_of_drives hv) (by decide) (by decide) hu hw)
  have answer (u : State) (f : Frame) (code : ResultCode) (figures : List Byte) (use : ResultUse)
      (hu : u.DriveWf) : (u.answer f code figures use).1.DriveWf :=
    driveWf_of_sameBut (u.answer_changes f code figures use) (by decide) (by decide) (by decide) hu
  have judge (u : State) (f : Frame) (hu : u.DriveWf) : (u.judgeSource f).DriveWf :=
    driveWf_of_sameBut (u.judgeSource_changes f) (by decide) (by decide) (by decide) hu
  have serve {r : Request} {carry : Frame → State → State}
      (carried : ∀ f u, u.DriveWf → (carry f u).DriveWf) : (s.serve r carry).DriveWf :=
    serve_keeps (fun _ _ hu => hu) answer judge carried s h
  cases c <;> try exact absurd ⟨_, rfl, by decide, by decide, by decide⟩ spared
  all_goals obtain rfl := Host.Outcome.next.inj hexec
  case reset role a x y => exact driveWf_released role a.toNat x y
  case resetAsserted =>
    obtain ⟨wf, rest⟩ := driveWf_released s.role s.address s.sensing.contact1.level
      s.sensing.contact2.level
    exact ⟨Drive.wf_phasesOff wf, rest⟩
  case startEnd image =>
    refine takeExpiry_keeps h fun d _ => ?_
    exact andIf_keeps_of (P := DriveWf) h fun _ => endStart_driveWf (s := s.reach d) h image
  case status =>
    refine serve fun f u hu => andIf_keeps (fun v hv => ?_) _ _ (answer u _ _ _ _ hu)
    refine driveWf_of_drive v.clearLatches_changes (by decide) (by decide) hv ?_
    exact hv.1
  case clear endStop =>
    refine serve fun f u hu => answer _ _ _ _ _ ?_
    refine driveWf_of_sameBut (((clearLockout_changes _).mono (b := [.sequencer, .plantFlight, .wire,
      .announcer]) (by decide)).trans ((promptFlags_changes _ _).mono (by decide))) (by decide)
      (by decide) (by decide) ?_
    exact driveWf_of_drive (sameBut_of_drives (clearDrive_frame _)) (by decide) (by decide)
      (s := u.senseEndStop endStop) hu (clearDrive_wf hu.1 hu.2.1)
  case rehome endStop =>
    exact serve fun f u hu => answer _ _ _ _ _ (drive (u.senseEndStop endStop) hu
      (homeRequest_frame _) (homeRequest_wf hu.1))
  case hold endStop =>
    refine serve fun f u hu => ?_
    unfold carryHold
    extract_lets target
    split_ifs with hle
    · exact answer _ _ _ _ _ (drive (u.senseEndStop endStop) hu (startHold_frame _ _)
        (startHold_wf hu.1 hle))
    · exact answer _ _ _ _ _ hu
  case shareReckoningEnd endStop =>
    refine take_keeps (fun u hu => ?_) s h
    unfold shareEnds
    split
    · exact hu
    · split_ifs
      · exact driveWf_of_sameBut (promptFlags_changes _ _) (by decide) (by decide) (by decide)
          (endShare_driveWf (s := (u.senseEndStop endStop).reach _) hu _)
      · exact hu
  case alignmentEnd endStop =>
    refine takeExpiry_keeps h fun d _ => andIf_keeps_of (P := DriveWf) h fun hs => ?_
    refine drive (s.reach d) h (drives_trans (drives_trans ⟨_, rfl⟩ ⟨_, rfl⟩)
      (enterHoming_frame _ _)) (enterHoming_wf ?_ false)
    exact Drive.ready_of_aligned h.1 (by simpa using hs) endStop
  case homingStep stall endStop =>
    refine takeExpiry_keeps h fun d _ => andIf_keeps_of (P := DriveWf) h fun hs => ?_
    exact drive ((s.reach d).senseEndStop endStop) h (homingStep_frame _ _)
      (homingStep_wf (s := (s.reach d).senseEndStop endStop) h.1 (by simpa [senseEndStop] using hs) stall)
  case moveStep stall endStop =>
    refine takeExpiry_keeps h fun d _ => ?_
    unfold moves
    split
    · rename_i p hs hc
      split_ifs
      · exact h
      · exact drive ((s.reach d).senseEndStop endStop) h (moveStep_frame _ _ _)
          (moveStep_wf (s := (s.reach d).senseEndStop endStop) h.1 hs hc stall)
    · exact h
  case settleEnd =>
    refine takeExpiry_keeps h fun d _ => ?_
    exact driveWf_of_drive (onDrive_changes (s.reach d) _) (by decide) (by decide) h
      (Drive.wf_settled h.1)
  case holdTimerExpiry endStop =>
    refine takeExpiry_keeps h fun d _ => ?_
    exact drive ((s.reach d).senseEndStop endStop) h (endHold_frame _) (endHold_wf h.1 h.2.1)

/-- Settles O57: each operation of the drive leaves it coherent, and what the share unit hands it lies
within the travel. -/
theorem everyStepKeepsTheDriveCoherent : Obligations.EveryStepKeepsTheDriveCoherent :=
  step_keeps (fun _ _ _ h => h) exec_driveWf

end Sys2Proof.Machine
end

section
/-! PROOF. What the reckonings rest on is kept by every command of the line and of the frame handler,
as far as a change of the station state and a trigger keep it. -/

namespace Sys2Proof.Machine

namespace State

/-- The items that bear on no reckoning and on no station state. -/
abbrev quietItems : List Item :=
  [.clock, .stationTimers, .aging, .memberLatches, .restarts, .channels, .contacts, .sample, .setpoints,
    .demand, .announcer, .shareResult, .drive, .plantTimer, .unplaced, .current, .pair, .latches,
    .counters, .wire, .responder]

/-- A property of the reckonings and the station state: no quiet item bears on it, and a change of the
station state and the triggers of both units keep it. -/
structure Reckons (P : State → Prop) : Prop where
  quiet : ∀ {s t : State}, s.sameBut quietItems t → P s → P t
  enter : ∀ {s : State} (x : Station), P s → P (s.enterStation x)
  share : ∀ {s : State}, P s → P s.shareTrigger
  plant : ∀ {s : State}, P s → P s.plantTrigger

namespace Reckons
variable {P : State → Prop} {s : State} (r : Reckons P)
include r

theorem promptCause (h : P s) : P s.promptCause := r.quiet (s.promptCause_changes.mono (by decide)) h

theorem promptFlags (old : State) (h : P s) : P (s.promptFlags old) :=
  r.quiet ((s.promptFlags_changes old).mono (by decide)) h

theorem pairTaken (rest : List Frame) (h : P s) : P (s.onLine fun l => { l with pair := rest }) :=
  r.quiet ((s.onLine_pair_changes rest).mono (by decide)) h

theorem placeReply (k : TxKind) (dest : Nat) (body : List Byte) (use : ResultUse) (h : P s) :
    P (s.placeReply k dest body use).1 :=
  r.quiet ((s.placeReply_changes k dest body use).mono (by decide)) h

/-! ### The station state -/

theorem duplicateEvidence (h : P s) : P s.duplicateEvidence := by
  unfold State.duplicateEvidence
  split
  any_goals exact r.enter _ h
  all_goals exact h

theorem judgeSource (f : Frame) (h : P s) : P (s.judgeSource f) :=
  andIf_keeps_of h fun _ => r.duplicateEvidence h

theorem crowdedTo (e : TxEntry) (h : P s) : P (s.crowdedTo e) := by
  unfold State.crowdedTo
  split
  any_goals exact h
  · exact r.enter _ h
  · exact r.quiet ((s.resultLeft_changes _ _).mono (by decide)) h

/-! ### The zone line -/

theorem assemble (b : LineByte) (h : P s) : P (s.assemble b) :=
  r.quiet ((s.assemble_changes b).mono (by decide)) h

theorem loseAttempt (e : TxEntry) (h : P s) : P (s.loseAttempt e) := by
  unfold State.loseAttempt
  extract_lets s1 s2
  have counted : P s1 := r.quiet (((s.onCounters_changes _).mono (by decide)).trans
    ((onLine_changes _ _ (by simp)).mono (by decide))) h
  split_ifs
  · refine r.crowdedTo e (r.quiet ?_ counted)
    exact ((s1.onLine_changes _ (by simp)).mono (by decide)).trans
      ((onLatches_changes _ _).mono (by decide))
  · exact r.quiet ((s1.onLine_changes _ (by simp)).mono (by decide)) counted

theorem echoMatches (e : TxEntry) (b : LineByte) (h : P s) : P (s.echoMatches e b) := by
  unfold State.echoMatches
  split
  · exact r.quiet ((s.completeSending_changes e).mono (by decide)) h
  · exact r.assemble b (r.quiet ((s.onLine_changes _ (by simp)).mono (by decide)) h)

theorem hearByte (b : LineByte) (h : P s) : P (s.hearByte b) := by
  have begun : P (s.byteBegins b.idleBits) := r.quiet ((s.byteBegins_changes _).mono (by decide)) h
  unfold State.hearByte
  dsimp only
  split
  · exact r.assemble b begun
  · split_ifs
    · exact r.echoMatches _ b begun
    · exact r.assemble b (r.loseAttempt _ begun)

theorem hearBytes (bytes : List LineByte) (h : P s) : P (bytes.foldl State.hearByte s) := by
  induction bytes generalizing s with
  | nil => exact h
  | cons b rest ih => exact ih (r.hearByte b h)

theorem lineIdle (h : P s) : P s.lineIdle := r.quiet (s.lineIdle_changes.mono (by decide)) h

theorem hearRun (bytes : List LineByte) (h : P s) : P (s.hearRun bytes) :=
  r.lineIdle (r.hearBytes bytes h)

theorem badByte (n : Nat) (h : P s) : P (s.badByte n) := by
  unfold State.badByte
  extract_lets s1
  have heard : P s1 := r.quiet (((((s.byteBegins_changes n).mono (by decide)).trans
    ((onLatches_changes _ _).mono (by decide))).trans ((onCounters_changes _ _).mono (by decide))).trans
      ((onLine_changes _ _ (by simp)).mono (by decide))) h
  split
  · exact r.loseAttempt _ heard
  · exact heard

theorem framingError (n : Nat) (lineHeld : Bool) (h : P s) : P (s.framingError n lineHeld) := by
  unfold State.framingError
  split
  · exact r.quiet ((onLine_changes _ _ (by simp)).mono (by decide)) (r.badByte n h)
  · exact r.lineIdle (r.badByte n h)

theorem echoDiffers (e : TxEntry) (matched : Nat) (wrong : Option Byte) (goesOn : Bool) (h : P s) :
    P (s.echoDiffers e matched wrong goesOn) := by
  unfold State.echoDiffers
  split
  · exact h
  · split_ifs
    · exact h
    · refine andIf_keeps (fun u hu => r.lineIdle hu) _ _ ?_
      split
      · exact r.badByte 0 h
      · exact r.hearBytes _ h

/-! ### The frame handler and the service responder -/

theorem takeFrame {named : Frame → Bool} {act : Frame → State → State}
    (hact : ∀ (f : Frame) (u : State), P u → P (act f u)) (h : P s) : P (s.takeFrame named act) :=
  takeFrame_keeps (fun _ rest hu => r.pairTaken rest hu) (fun f u _ hu => hact f u hu) s h

theorem serve {q : Request} {carry : Frame → State → State}
    (hcarry : ∀ (f : Frame) (u : State), P u → P (carry f u)) (h : P s) : P (s.serve q carry) :=
  serve_keeps (fun _ rest hu => r.pairTaken rest hu) (fun _ _ _ _ _ hu => r.placeReply _ _ _ _ hu)
    (fun _ f hu => r.judgeSource f hu) hcarry s h

theorem serveQuietly {q : Request} {carry : Frame → State → State}
    (hcarry : ∀ (f : Frame) (u : State), u.sameBut quietItems (carry f u)) (h : P s) :
    P (s.serve q carry) := r.serve (fun f u hu => r.quiet (hcarry f u) hu) h

theorem heardRollCall (f : Frame) (h : P s) : P (s.heardRollCall f) := by
  unfold State.heardRollCall
  split_ifs
  · exact r.placeReply _ _ _ _ h
  · exact r.duplicateEvidence h
  · exact h

/-! ### Sensing, demand, setpoints -/

theorem evaluate (old : State) (h : P s) : P (s.evaluate old) :=
  andIf_keeps (fun _ hu => r.promptCause hu) _ _ (andIf_keeps (fun _ hu => r.share hu) _ _
    (r.quiet ((s.onDemand_changes _ (by simp)).mono (by decide)) h))

theorem recompute (old : State) (h : P s) : P (s.recompute old) := by
  refine r.evaluate old (r.quiet ?_ h)
  exact ((s.onDemand_changes _ (by simp)).mono (by decide)).trans
    ((onDemand_changes _ _ (by simp)).mono (by decide))

theorem applySetpoint (f : Frame) (h : P s) : P (s.applySetpoint f) := by
  unfold State.applySetpoint
  split
  · extract_lets w kept s1 s2
    have stored : P s1 := r.quiet (fun i => by cases i <;> simp [Item.same, s1]) h
    have worked : P s2 := r.recompute s stored
    split_ifs
    · exact r.placeReply _ _ _ _ worked
    · exact worked
  · split_ifs
    · exact r.placeReply _ _ _ _ h
    · exact h

end Reckons
end State

/-- The commands that neither write the table, nor end a snapshot or a reckoning, nor hand channels or
contacts on, nor work the plant sequencer, nor reset the part. -/
def sparesReckonings : Instr → Bool
  | .reset _ _ _ _ | .resetAsserted | .startEnd _ | .agingExpiry | .announce | .plantStatus
  | .tableWriteApplied | .snapshotEnd _ | .restartCarriedOut | .sampleTimerExpiry _ _
  | .debounceExpiry _ | .shareReckoningEnd _ | .plantTimerExpiry | .plantReckoningEnd | .minOnExpiry
  | .minOffExpiry | .dwellExpiry | .changeoverPauseExpiry | .frostTimerExpiry | .tripTimerExpiry
  | .defrostOverlongExpiry | .clear _ => false
  | _ => true

open State in
/-- Such a command keeps every property of the reckonings. -/
theorem State.Reckons.exec {P : State → Prop} (r : Reckons P) {c : Instr} {s t : State} (h : P s)
    (hexec : exec c s = .next t) (hc : sparesReckonings c = true) : P t := by
  by_cases quiet : ∃ a, touches c = some a ∧ a ⊆ quietItems
  · obtain ⟨a, ha, hsub⟩ := quiet
    exact r.quiet ((exec_changes ha hexec).mono hsub) h
  cases c <;> try exact absurd ⟨_, rfl, by decide⟩ quiet
  any_goals exact Bool.noConfusion hc
  all_goals obtain rfl := Host.Outcome.next.inj hexec
  case joinWindowExpiry | rollCallWaitExpiry | duplicateHoldExpiry =>
    exact takeExpiry_keeps h fun d _ => r.enter _ (r.quiet (sameBut_reach s d (by decide)) h)
  case rollCall => exact r.takeFrame (fun f u hu => r.heardRollCall f hu) h
  case present | setpointReply | result => exact r.takeFrame (fun f u hu => r.judgeSource f hu) h
  case setpoint => exact r.takeFrame (fun f u hu => r.judgeSource f (r.applySetpoint f hu)) h
  case peer | share | plant =>
    exact r.serveQuietly (fun f u => (u.answer_changes _ _ _ _).mono (by decide)) h
  case status => exact r.serveQuietly (fun f u => (u.reportStatus_changes f).mono (by decide)) h
  case dump => exact r.serveQuietly (fun f u => (u.buildDump_changes _).mono (by decide)) h
  case rehome endStop =>
    exact r.serveQuietly (fun f u => (u.carryRehome_changes f endStop).mono (by decide)) h
  case hold endStop =>
    exact r.serveQuietly (fun f u => (u.carryHold_changes f endStop).mono (by decide)) h
  case restart => exact r.serveQuietly (fun f u => (u.carryRestart_changes f).mono (by decide)) h
  case receivedFrame bytes | length bytes =>
    exact take_keeps (fun u hu => andIf_keeps (fun v hv => r.hearRun bytes hv) u _ hu) s h
  case framingError n lineHeld =>
    exact take_keeps (fun u hu => andIf_keeps (fun v hv => r.framingError n lineHeld hv) u _ hu) s h
  case truncated bytes =>
    exact take_keeps (fun u hu => andIf_keeps (fun v hv => r.quiet ((truncate_changes _).mono
      (by decide)) (r.hearRun bytes hv)) u _ hu) s h
  case lostAttempt matched wrong goesOn =>
    refine take_keeps (fun u hu => ?_) s h
    split
    · exact r.echoDiffers _ _ _ _ hu
    · exact hu

end Sys2Proof.Machine
end

section
/-! PROOF. Every step keeps the plant sequencer coherent (R104 to R155). -/

namespace Sys2Proof.Machine

/-! ### The plant alone -/

/-- The arbitration, protection and airflow of a plant agree with its state. -/
def Plant.coherent (c : Config.Product) (p : Plant) : Prop :=
  p.arb.wf ∧ p.prot.wf p.arb.mode ∧ p.air.wf c p.arb.mode

theorem startTarget_running {w : Sums} {m : PlantMode} (h : startTarget w = some m) :
    m.running = true := by
  unfold startTarget at h
  split_ifs at h <;> cases h <;> rfl

/-- What a verdict needs of the arbitration it is applied to. -/
def Verdict.fits (a : Arbitration) : Verdict → Prop
  | .stay startHeld runHeld =>
    (startHeld = true → a.mode = .idle) ∧ (runHeld = true → a.mode.running = true)
  | .enter m => m.running = true ∧ a.mode ≠ .lockout
  | .switch m => a.mode.coolSide = true ∧ m.coolSide = true
  | .stop => a.mode.running = true
  | .changeover => a.mode.running = true
  | .lockout cause => cause ≠ .none
  | .remain cause => a.mode = .lockout ∧ cause ≠ .none
  | .release => a.mode = .lockout
  | .rest => a.mode = .changeover ∧ a.pause.isRunning = false

theorem judgeGone_fits {a b : Arbitration} (h : b.mode.running = true) : (judgeGone a).fits b := by
  unfold judgeGone
  split
  · exact h
  · exact ⟨by simp, fun _ => h⟩
  · exact ⟨by simp, fun _ => h⟩

theorem stay_fits (a : Arbitration) : (Verdict.stay false false).fits a := ⟨by simp, by simp⟩

/-- A reckoning's verdict fits the arbitration that stands at its end, which agrees with what it
noted. -/
theorem judge_fits {margin : Nat} {f : PlantFlight} {w : Sums} {a : Arbitration} (h : a.wf)
    (mode : f.arb.mode = a.mode) (cause : f.arb.cause = a.cause)
    (pause : a.pause.isRunning = true → f.arb.pause.isRunning = true) :
    (judge margin f w).fits a := by
  unfold judge
  split_ifs with offline locked
  · exact stay_fits a
  · show lockoutCause _ _ _ ≠ .none
    unfold lockoutCause
    split_ifs <;> simp_all
  · split <;> rename_i hm <;> rw [mode] at hm
    · unfold judgeLockout
      split_ifs
      · exact hm
      · refine ⟨hm, ?_⟩
        unfold lockoutCause
        split_ifs <;> simp_all
    · unfold judgeIdle
      split
      · exact stay_fits a
      · split_ifs
        · exact ⟨fun _ => hm, by simp⟩
        · exact ⟨startTarget_running ‹_›, by rw [hm]; simp⟩
    · unfold judgeHeat
      split_ifs
      · simp [Verdict.fits, hm, PlantMode.running]
      · exact judgeGone_fits (by rw [hm]; rfl)
      · exact stay_fits a
    · unfold judgeCool
      split_ifs
      · simp [Verdict.fits, hm, PlantMode.running]
      · exact judgeGone_fits (by rw [hm]; rfl)
      · exact ⟨by rw [hm]; rfl, rfl⟩
      · exact ⟨by rw [hm]; rfl, rfl⟩
      · exact stay_fits a
    · unfold judgeCool
      split_ifs
      · simp [Verdict.fits, hm, PlantMode.running]
      · exact judgeGone_fits (by rw [hm]; rfl)
      · exact ⟨by rw [hm]; rfl, rfl⟩
      · exact ⟨by rw [hm]; rfl, rfl⟩
      · exact stay_fits a
    · unfold judgeChangeover
      split_ifs with hp
      · exact stay_fits a
      · split
        · exact ⟨hm, by simpa using mt pause hp⟩
        · exact ⟨startTarget_running ‹_›, by rw [hm]; simp⟩

theorem Arbitration.apply_wf {a : Arbitration} {v : Verdict} {start : Nat → Timer} {dwellMs : Nat}
    (h : a.wf) (hv : v.fits a) (hstart : ∀ n, (start n).isRunning = true) :
    (a.apply v start dwellMs).wf := by
  have started (n : Nat) : start n ≠ .stopped ∧ start n ≠ .expired := by
    have := hstart n
    constructor <;> intro hn <;> simp [hn] at this
  obtain ⟨valve, startHeld, runHeld, minOn, dwell, minOff, ended, pause, cause⟩ := h
  cases v with
  | stay x y => exact ⟨valve, hv.1, hv.2, minOn, dwell, minOff, ended, pause, cause⟩
  | enter m =>
    obtain ⟨running, unlocked⟩ := hv
    cases m <;> simp_all [Arbitration.apply, PlantMode.running, Arbitration.wf]
  | switch m =>
    obtain ⟨cool, cool'⟩ := hv
    cases m <;> cases hm : a.mode <;>
      simp_all [Arbitration.apply, PlantMode.running, Arbitration.wf, PlantMode.coolSide]
  | stop | changeover | lockout c | remain c | release | rest =>
    cases hm : a.mode <;>
      simp_all [Arbitration.apply, Verdict.fits, PlantMode.running, Arbitration.wf]

theorem tripStands_of_begins {mode : PlantMode} {f : PlantFlight} (h : tripBegins mode f = true) :
    tripStands mode f = true := by
  have side : mode.coolSide = true := by
    unfold tripBegins at h
    simp only [Bool.and_eq_true] at h
    exact h.1.1.1.1
  simp [tripStands, h, side]

theorem defrostStands_of_begins {mode : PlantMode} {f : PlantFlight}
    (h : defrostBegins mode f = true) : defrostStands mode f = true := by
  unfold defrostBegins at h
  exact (Bool.and_eq_true_iff.mp h).1

/-- A trip that stands without beginning was noted. -/
theorem trip_noted {mode : PlantMode} {f : PlantFlight} (h : tripStands mode f = true)
    (hb : tripBegins mode f = false) : f.prot.trip = true := by
  simp [tripStands, hb] at h
  exact h.2.1

/-- A defrost phase that stands without beginning was noted. -/
theorem defrost_noted {mode : PlantMode} {f : PlantFlight} (h : defrostStands mode f = true)
    (hb : defrostBegins mode f = false) : f.prot.defrost = true := by
  simpa [defrostBegins, h] using hb

theorem frostTimerAfter_guard {mode : PlantMode} {f : PlantFlight} {start : Nat → Timer} {now : Timer}
    (h : frostTimerAfter mode f start now ≠ .stopped) : guardSet mode f = true := by
  cases hg : guardSet mode f
  · exact absurd (by simp [frostTimerAfter, hg]) h
  · rfl

/-- The phases worked at a reckoning's end suit the state that then stands. -/
theorem Protection.work_wf {p : Protection} {old mode : PlantMode} {f : PlantFlight}
    {start : Nat → Timer} {capacity : Nat} (h : p.wf old) (trip : f.prot.trip = p.trip)
    (defrost : f.prot.defrost = p.defrost) (hstart : ∀ n, start n ≠ .stopped) :
    (p.work f mode start capacity).wf mode := by
  obtain ⟨-, -, tripTimer, -, -, -, boost, -, count, held, overlong, -⟩ := h
  refine ⟨fun hg => ?guard, fun ht => ?trip, ?tripTimer, frostTimerAfter_guard, fun hl => ?high,
    fun hd => ?defrost, ?boost, fun hl => ?noBoost, ?count, ?held, ?overlong, fun hf => ?flag⟩
  case guard => exact (Bool.and_eq_true_iff.mp hg).1
  case trip => exact (Bool.and_eq_true_iff.mp ht).1
  case tripTimer =>
    show (if tripBegins mode f then _ else if tripStands mode f then p.tripTimer else _) = _ ↔
      tripStands mode f = false
    cases hb : tripBegins mode f
    · cases hs : tripStands mode f
      · simp
      · simpa [trip ▸ trip_noted hs hb] using tripTimer
    · simpa [tripStands_of_begins hb] using hstart _
  case high =>
    simp only [Protection.work, highLimitSet, Bool.and_eq_true, Bool.not_eq_true', beq_iff_eq] at hl
    exact ⟨hl.1.1, hl.1.2⟩
  case defrost => exact beq_iff_eq.mp (Bool.and_eq_true_iff.mp hd).1
  case boost =>
    show (if highLimitSet mode f then p.boost else 0) ≤ 5
    split_ifs
    · exact boost
    · exact Nat.zero_le 5
  case noBoost =>
    show (if highLimitSet mode f then p.boost else 0) = 0
    exact if_neg (by simpa [Protection.work] using hl)
  case count =>
    show (if tripBegins mode f then saturate p.tripCount 3 else p.tripCount) ≤ 3
    split_ifs
    · exact saturate_le
    · exact count
  case held =>
    show (if defrostBegins mode f then some capacity
      else if defrostStands mode f then p.heldCapacity else none).isSome = defrostStands mode f
    cases hb : defrostBegins mode f
    · cases hs : defrostStands mode f
      · rfl
      · simpa [defrost ▸ defrost_noted hs hb] using held
    · simp [defrostStands_of_begins hb]
  case overlong =>
    show (if defrostBegins mode f then _ else if defrostStands mode f then p.overlong else _) = _ ↔
      defrostStands mode f = false
    cases hb : defrostBegins mode f
    · cases hs : defrostStands mode f
      · simp
      · simpa [defrost ▸ defrost_noted hs hb] using overlong
    · simpa [defrostStands_of_begins hb] using hstart _
  case flag =>
    simp only [Protection.work, Bool.and_eq_true] at hf
    exact hf.1.1

/-- In IDLE and LOCKOUT no blower target and no capacity stand. -/
theorem blowerTarget_resting (c : Config.Product) (online : Bool) {mode : PlantMode} (ph : PhaseFlags)
    (sp boost : Nat) (h : mode = .idle ∨ mode = .lockout) :
    blowerTarget c online mode ph sp boost = 0 := by
  rcases h with rfl | rfl <;> cases online <;> rfl

theorem capacityDemand_resting (c : Config.Product) (online : Bool) {mode : PlantMode}
    (ph : PhaseFlags) (held : Option Nat) (heatCap : Bool) (dw : Nat)
    (h : mode = .idle ∨ mode = .lockout) : capacityDemand c online mode ph held heatCap dw = 0 := by
  rcases h with rfl | rfl <;> simp [capacityDemand]

theorem Air.work_wf {a : Air} {c : Config.Product} {online : Bool} {mode : PlantMode}
    {ph : PhaseFlags} {held : Option Nat} {heatCap : Bool} {boost : Nat} {entries : List Entry}
    (h : a.fanOut = fanDemand c a.qb) :
    (a.work c online mode ph held heatCap boost entries).wf c mode := by
  unfold Air.work
  extract_lets sp dw qt a1 a2
  have resting (hm : mode = .idle ∨ mode = .lockout) : qt = 0 ∧ a2.kc = 0 :=
    ⟨blowerTarget_resting c online ph sp boost hm, capacityDemand_resting c online ph held heatCap dw hm⟩
  by_cases hqt : qt = 0
  · rw [if_pos (by simpa using hqt)]
    exact ⟨rfl, rfl, rfl, fun hm => ⟨(resting hm).1, rfl, (resting hm).2⟩⟩
  · rw [if_neg (by simpa using hqt)]
    exact ⟨rfl, rfl, h, fun hm => absurd (resting hm).1 hqt⟩

theorem Plant.afterReckoning_coherent {p : Plant} {f : PlantFlight} {c : Config.Product}
    {start : Nat → Timer} (online : Bool) (h : p.coherent c) (hv : f.void = false)
    (agrees : f.agrees online p.arb p.prot) (hstart : ∀ n, (start n).isRunning = true) :
    (p.afterReckoning f c online start).coherent c := by
  obtain ⟨arb, prot, -, -, air, -⟩ := h
  obtain ⟨mode, cause, defrost, trip, -, -, pause⟩ := agrees hv
  have begun (n : Nat) : start n ≠ .stopped := fun hn => by simpa [hn] using hstart n
  unfold afterReckoning
  extract_lets w v arb1 stood prot0 prot1 arb2 p1
  have arb1_wf : arb1.wf := Arbitration.apply_wf arb (judge_fits arb mode cause pause) hstart
  have prot0_wf : prot0.wf p.arb.mode := by
    unfold prot0
    split_ifs
    · obtain ⟨guard, inTrip, timer, frost, high, inDefrost, boost, noBoost, -, rest⟩ := prot
      exact ⟨guard, inTrip, timer, frost, high, inDefrost, boost, noBoost, Nat.zero_le 3, rest⟩
    · exact prot
  have kept : prot0.trip = p.prot.trip ∧ prot0.defrost = p.prot.defrost := by
    unfold prot0
    split_ifs <;> exact ⟨rfl, rfl⟩
  exact ⟨arb1_wf, Protection.work_wf prot0_wf (trip.trans kept.1.symm) (defrost.trans kept.2.symm) begun,
    Air.work_wf air⟩

/-- Out of ONLINE a reckoning leaves the plant state. -/
theorem Plant.afterReckoning_mode_offline {p : Plant} {f : PlantFlight} {c : Config.Product}
    {start : Nat → Timer} {online : Bool} (h : f.online = false) :
    (p.afterReckoning f c online start).arb.mode = p.arb.mode := by
  simp [afterReckoning, judge, h, Arbitration.apply, Arbitration.storeSums]

/-- What leaving ONLINE makes of the plant. -/
def Plant.forced (c : Config.Product) (start : Nat → Timer) (p : Plant) : Plant :=
  { p with arb := p.arb.force start, prot := p.prot.force, air := p.air.force c }

theorem Plant.forced_coherent {c : Config.Product} {start : Nat → Timer} {p : Plant}
    (h : p.coherent c) (hstart : ∀ n, (start n).isRunning = true) :
    (p.forced c start).coherent c ∧ (p.forced c start).arb.mode = .idle := by
  obtain ⟨-, ⟨-, -, -, -, -, -, -, -, count, -⟩, -⟩ := h
  have begun : start Config.minOffMs ≠ .stopped := fun hn => by simpa [hn] using hstart Config.minOffMs
  refine ⟨⟨?_, ?_, ?_⟩, rfl⟩
  · simpa [forced, Arbitration.force, Arbitration.wf, PlantMode.running] using begun
  · simpa [forced, Protection.force, Protection.wf] using count
  · simp [forced, Air.force, Air.setQb, Air.setKc, Air.wf, Arbitration.force]


/-! ### The state with its plant -/

namespace State

theorem plantWf_of_sameBut {s t : State} {a : List Item} (h : s.sameBut a t) (hf : .fixed ∉ a)
    (hst : .station ∉ a) (hp : .plantFlight ∉ a) (hq : .sequencer ∉ a) (hs : s.PlantWf) :
    t.PlantWf := by
  obtain ⟨-, role, -, cfg, -⟩ := h.of_not_mem hf
  have station : t.member.station = s.member.station := h.of_not_mem hst
  obtain ⟨flight, -⟩ := h.of_not_mem hp
  obtain ⟨arb, air, prot⟩ := h.of_not_mem hq
  unfold PlantWf
  rwa [role, cfg, station, flight, arb, air, prot]

/-- The coherence of the plant in the terms of the plant alone. -/
theorem plantWf_iff (s : State) : s.PlantWf ↔ s.plant.coherent s.cfg ∧
    (s.member.station ≠ .online → s.plant.arb.mode = .idle) ∧
    (s.role = .zone → s.plant.arb.mode = .idle ∧ s.plant.flight = none) ∧
    ∀ f ∈ s.plant.flight, f.agrees (s.member.station == .online) s.plant.arb s.plant.prot := by
  constructor
  · rintro ⟨arb, prot, air, offline, zone, flight⟩
    exact ⟨⟨arb, prot, air⟩, offline, zone, flight⟩
  · rintro ⟨⟨arb, prot, air⟩, offline, zone, flight⟩
    exact ⟨arb, prot, air, offline, zone, flight⟩

theorem timer_isRunning (s : State) (n : Nat) : (s.timer n).isRunning = true := rfl

/-- A snapshot notes the plant as it stands. -/
theorem plantSnapshot_agrees {s : State} (h : s.plant.prot.wf s.plant.arb.mode) :
    s.plantSnapshot.agrees (s.member.station == .online) s.plant.arb s.plant.prot := by
  obtain ⟨guard, -⟩ := h
  exact fun _ => ⟨rfl, rfl, rfl, rfl, guard, id, id⟩

theorem beginPlant_plantWf {s : State} (h : s.PlantWf) (hr : s.role = .plant) :
    s.beginPlant.PlantWf := by
  obtain ⟨arb, prot, air, offline, -, -⟩ := h
  refine ⟨arb, prot, air, offline, fun hz => absurd (hr.symm.trans hz) (by simp), ?_⟩
  rintro f ⟨⟩
  exact plantSnapshot_agrees prot

theorem plantTrigger_plantWf {s : State} (h : s.PlantWf) : s.plantTrigger.PlantWf := by
  unfold plantTrigger
  split
  · exact h
  · split
    · exact beginPlant_plantWf h ‹_›
    · exact h

/-- Having left ONLINE the plant stands in IDLE, and a reckoning in flight is void. -/
theorem leftOnline_plantWf {s : State} (h : s.plant.coherent s.cfg)
    (zone : s.role = .zone → s.plant.arb.mode = .idle ∧ s.plant.flight = none) :
    s.leftOnline.PlantWf := by
  unfold leftOnline
  extract_lets s1 s2
  have stopped : s.sameBut [.stationTimers, .announcer] s1 :=
    ((s.onMember_timer_changes _ rfl).mono (by decide)).trans
      ((onAnnouncer_changes _ _).mono (by decide))
  obtain ⟨-, role, -, cfg, -⟩ := stopped.of_not_mem (i := .fixed) (by decide)
  obtain ⟨arb, air, prot⟩ := stopped.of_not_mem (i := .sequencer) (by decide)
  obtain ⟨flight, -⟩ := stopped.of_not_mem (i := .plantFlight) (by decide)
  have coherent : s1.plant.coherent s1.cfg := by
    unfold Plant.coherent
    rwa [cfg, arb, air, prot]
  have forced : s2.PlantWf := by
    unfold s2
    split <;> rename_i hr <;> rw [← role] at hr
    · obtain ⟨idle, none⟩ := zone (role.symm.trans hr)
      refine (plantWf_iff _).mpr ⟨coherent, fun _ => by rw [arb, idle], fun _ => ?_, ?_⟩
      · rw [arb, flight]
        exact ⟨idle, none⟩
      · rw [flight, none]
        simp
    · refine plantWf_of_sameBut (tellShare_changes _ _) (by decide) (by decide) (by decide) (by decide)
        ((plantWf_iff _).mpr ?_)
      obtain ⟨coherent, idle⟩ := Plant.forced_coherent (start := s1.timer) coherent s1.timer_isRunning
      refine ⟨coherent, fun _ => idle, fun hz => absurd (hr.symm.trans hz) (by simp), fun f hf hv => ?_⟩
      obtain ⟨g, -, rfl⟩ := Option.map_eq_some_iff.mp hf
      exact absurd hv (by simp [PlantFlight.makeVoid])
  exact plantTrigger_plantWf (plantWf_of_sameBut (shareTrigger_changes _) (by decide) (by decide)
    (by decide) (by decide) forced)

theorem entered_plantWf {s : State} (h : s.PlantWf) : s.entered.PlantWf := by
  have quiet {u v : State} {a : List Item} (hv : u.sameBut a v)
      (ha : a ⊆ [.stationTimers, .wire, .shareFlight, .announcer]) (hu : u.PlantWf) : v.PlantWf :=
    plantWf_of_sameBut (hv.mono ha) (by decide) (by decide) (by decide) (by decide) hu
  unfold entered
  split
  · exact h
  · exact h
  · exact quiet (s.onMember_timer_changes _ rfl) (by decide) h
  · exact quiet (s.placePeriodic_changes _ _) (by decide) h
  · exact quiet (s.onMember_timer_changes _ rfl) (by decide) h
  · exact quiet (placeAnnouncement_changes _) (by decide) (plantTrigger_plantWf
      (quiet (shareTrigger_changes _) (by decide) (quiet (s.onMember_timer_changes _ rfl)
        (by decide) h)))

/-- A change of the station state: out of ONLINE the plant stands in IDLE, and what a reckoning in
flight noted is void or was noted out of ONLINE. -/
theorem enterStation_plantWf {s : State} (x : Station) (h : s.PlantWf) : (s.enterStation x).PlantWf := by
  obtain ⟨coherent, offline, zone, flights⟩ := (plantWf_iff s).mp h
  have moved := s.moveTo_changes x
  obtain ⟨-, role, -, cfg, -⟩ := moved.of_not_mem (i := .fixed) (by decide)
  obtain ⟨arb, air, prot⟩ := moved.of_not_mem (i := .sequencer) (by decide)
  obtain ⟨flight, -⟩ := moved.of_not_mem (i := .plantFlight) (by decide)
  have coherent' : (s.moveTo x).plant.coherent (s.moveTo x).cfg := by
    unfold Plant.coherent
    rwa [cfg, arb, air, prot]
  have zone' : (s.moveTo x).role = .zone →
      (s.moveTo x).plant.arb.mode = .idle ∧ (s.moveTo x).plant.flight = none := by
    rwa [role, arb, flight]
  rw [enterStation_eq]
  refine entered_plantWf ?_
  by_cases online : s.member.station = .online
  · rw [online, beq_self_eq_true, andIf_true]
    exact leftOnline_plantWf coherent' zone'
  · rw [beq_eq_false_iff_ne.mpr online, andIf_false]
    have idle : (s.moveTo x).plant.arb.mode = .idle := by rw [arb]; exact offline online
    refine (plantWf_iff _).mpr ⟨coherent', fun _ => idle, zone', fun f hf hv => ?_⟩
    rw [flight] at hf
    rw [arb, prot]
    obtain ⟨mode, cause, defrost, trip, guard, noted, pause⟩ := flights f hf hv
    refine ⟨mode, cause, defrost, trip, guard, fun ho => ?_, pause⟩
    exact absurd (beq_iff_eq.mp (noted ho)) online

theorem plantWf_reckons : Reckons PlantWf where
  quiet h := plantWf_of_sameBut h (by decide) (by decide) (by decide) (by decide)
  enter x := enterStation_plantWf x
  share := plantWf_of_sameBut (shareTrigger_changes _) (by decide) (by decide) (by decide) (by decide)
  plant := plantTrigger_plantWf

/-! ### The table and its occupation -/

/-- The items that do not bear on the plant sequencer. -/
abbrev offPlantItems : List Item := .roster :: .waits :: .shareFlight :: quietItems

theorem plantWf_offPlant {s t : State} (h : s.sameBut offPlantItems t) (hs : s.PlantWf) : t.PlantWf :=
  plantWf_of_sameBut h (by decide) (by decide) (by decide) (by decide) hs

theorem tableBecomes_plantWf {s : State} (table : List Entry) (changed : Bool) (h : s.PlantWf) :
    (s.tableBecomes table changed).PlantWf := by
  refine plantWf_reckons.promptFlags s (andIf_keeps (fun u hu => ?_) _ _ ?_)
  · exact plantTrigger_plantWf (plantWf_reckons.share hu)
  · exact plantWf_offPlant ((s.onMember_roster_changes table _).mono (by decide)) h

theorem tableRecord_plantWf {s : State} (a : Nat) (r : Record) (h : s.PlantWf) :
    (s.tableRecord a r).PlantWf := by
  unfold tableRecord
  split
  · exact andIf_keeps (fun _ hu => plantTrigger_plantWf hu) _ _ (andIf_keeps
      (fun _ hu => plantWf_reckons.share hu) _ _ (tableBecomes_plantWf _ _ h))
  · split_ifs
    · exact tableBecomes_plantWf _ _ h
    · split
      · exact tableBecomes_plantWf _ _ h
      · exact h

theorem handRecord_plantWf {s : State} (f : Frame) (h : s.PlantWf) : (s.handRecord f).PlantWf := by
  unfold handRecord
  split_ifs
  · exact h
  · exact plantWf_reckons.duplicateEvidence h
  · exact h
  · exact tableRecord_plantWf _ _ h

theorem iterate_keeps {P : State → Prop} {act : State → State} (h : ∀ s, P s → P (act s)) (n : Nat)
    {s : State} (hs : P s) : P (act^[n] s) := by
  induction n generalizing s with
  | zero => exact hs
  | succ n ih => exact ih (h s hs)

theorem occupationEnds_plantWf {s : State} (h : s.PlantWf) : s.occupationEnds.PlantWf := by
  unfold occupationEnds
  split
  · exact h
  · extract_lets s1 s2
    have aged : s2.PlantWf := iterate_keeps (fun _ hu => tableBecomes_plantWf _ _ hu) _ h
    split
    · exact aged
    · split_ifs
      · exact aged
      · exact tableBecomes_plantWf _ _ aged

theorem emptyTable_plantWf {s : State} (h : s.PlantWf) : s.emptyTable.PlantWf := by
  unfold emptyTable
  extract_lets followed
  split_ifs
  · exact h
  · exact tableBecomes_plantWf (s := s) _ _ h

/-- A snapshot's end changes the phase of its reckoning alone, which notes what it noted. -/
theorem endSnapshot_plantWf {s : State} (unit : ReckoningUnit) (h : s.PlantWf) :
    (s.endSnapshot unit).PlantWf := by
  unfold endSnapshot
  split
  · split
    · exact occupationEnds_plantWf h
    · exact h
  · split
    · rename_i f hf
      split_ifs
      · refine occupationEnds_plantWf ((plantWf_iff _).mpr ?_)
        obtain ⟨coherent, offline, zone, flights⟩ := (plantWf_iff s).mp h
        refine ⟨coherent, offline, fun hz => ?_, ?_⟩
        · exact absurd (hf.symm.trans (zone hz).2) (by simp)
        · rintro g ⟨⟩
          exact flights f hf
      · exact h
    · exact h

theorem carryOutRestart_plantWf {s : State} (h : s.PlantWf) : s.carryOutRestart.PlantWf := by
  unfold carryOutRestart
  split
  · exact h
  · split_ifs
    · exact enterStation_plantWf _ (emptyTable_plantWf (s := s.onMember _) h)
    · exact h

/-! ### The sequencer's own events -/

/-- A change of the plant that keeps what the rest of the state has to do with it. -/
theorem plantWf_of_plant {s : State} {p : Plant} (h : s.PlantWf) (coherent : p.coherent s.cfg)
    (mode : p.arb.mode = s.plant.arb.mode) (cause : p.arb.cause = s.plant.arb.cause)
    (pause : p.arb.pause.isRunning = true → s.plant.arb.pause.isRunning = true)
    (phases : p.prot.defrost = s.plant.prot.defrost ∧ p.prot.trip = s.plant.prot.trip)
    (flight : p.flight = s.plant.flight) : ({ s with plant := p } : State).PlantWf := by
  obtain ⟨-, offline, zone, flights⟩ := (plantWf_iff s).mp h
  refine (plantWf_iff _).mpr ⟨coherent, ?_, ?_, ?_⟩
  · exact fun ho => mode.trans (offline ho)
  · exact fun hz => ⟨mode.trans (zone hz).1, flight.trans (zone hz).2⟩
  · intro f hf hv
    obtain ⟨fm, fc, fd, ft, guard, noted, fp⟩ := flights f (flight ▸ hf) hv
    exact ⟨fm.trans mode.symm, fc.trans cause.symm, fd.trans phases.1.symm, ft.trans phases.2.symm,
      guard, noted, fun hp => fp (pause hp)⟩

theorem plantTriggers_plantWf (changes : List Bool) {s : State} (h : s.PlantWf) :
    (s.plantTriggers changes).PlantWf := by
  induction changes generalizing s with
  | nil => exact h
  | cons c rest ih => exact ih (andIf_keeps (fun _ hu => plantTrigger_plantWf hu) s c h)

theorem handOver_plantWf {s : State} (old : State) (h : s.PlantWf) : (s.handOver old).PlantWf := by
  unfold handOver
  split
  · exact plantWf_reckons.promptFlags _ (plantWf_reckons.recompute _ h)
  · extract_lets s1
    have worked : s1.PlantWf := plantWf_of_plant h ((plantWf_iff s).mp h).1 rfl rfl id ⟨rfl, rfl⟩ rfl
    exact plantWf_reckons.promptFlags _ (plantTriggers_plantWf _ worked)

theorem contactChanged_plantWf {s : State} (old : State) (c : Contact) (h : s.PlantWf) :
    (s.contactChanged old c).PlantWf := by
  unfold contactChanged
  split
  · exact plantWf_reckons.promptFlags _ (plantWf_reckons.share (plantWf_reckons.evaluate _ h))
  · exact h
  · exact plantTrigger_plantWf (andIf_keeps_of (P := PlantWf) h fun _ => plantWf_of_plant h
      ((plantWf_iff s).mp h).1 rfl rfl id ⟨rfl, rfl⟩ rfl)
  · exact plantTrigger_plantWf h

theorem slewed_zero (slew : Nat) : slewed slew 0 0 = 0 := rfl

theorem slewStep_plantWf {s : State} (h : s.PlantWf) : s.slewStep.PlantWf := by
  unfold slewStep
  extract_lets qb s1
  have slewed : s1.PlantWf := by
    obtain ⟨arb, prot, air⟩ := ((plantWf_iff s).mp h).1
    refine plantWf_of_plant h ⟨arb, prot, ?_⟩ rfl rfl id ⟨rfl, rfl⟩ rfl
    dsimp only
    split_ifs with hq
    · exact air
    · obtain ⟨call, cap, fan, rest⟩ := air
      refine ⟨call, cap, rfl, fun hm => ?_⟩
      obtain ⟨qt, qb0, kc⟩ := rest hm
      exact absurd (beq_iff_eq.mpr (by simp [qb, qt, qb0, slewed_zero])) hq
  exact plantWf_offPlant ((tellStatus_changes _ _).mono (by decide))
    (plantWf_offPlant ((tellShare_changes _ _).mono (by decide)) slewed)

theorem boostStep_plantWf {s : State} (h : s.PlantWf) : s.boostStep.PlantWf := by
  refine andIf_keeps_of h fun hl => ?_
  obtain ⟨arb, prot, air⟩ := ((plantWf_iff s).mp h).1
  refine plantWf_of_plant h ⟨arb, ?_, air⟩ rfl rfl id ⟨rfl, rfl⟩ rfl
  obtain ⟨guard, trip, timer, frost, high, defrost, -, -, rest⟩ := prot
  exact ⟨guard, trip, timer, frost, high, defrost, saturate_le,
    fun off => absurd (hl.symm.trans off) (by simp), rest⟩

/-- A timer of the arbitration reports expired, or the pause is over. -/
theorem onArb_plantWf {s : State} (f : Arbitration → Arbitration) (h : s.PlantWf)
    (wf : (f s.plant.arb).wf) (mode : (f s.plant.arb).mode = s.plant.arb.mode)
    (cause : (f s.plant.arb).cause = s.plant.arb.cause)
    (pause : (f s.plant.arb).pause.isRunning = true → s.plant.arb.pause.isRunning = true) :
    (s.onArb f).plantTrigger.PlantWf := by
  obtain ⟨-, prot, air⟩ := ((plantWf_iff s).mp h).1
  refine plantTrigger_plantWf (plantWf_of_plant h ⟨wf, ?_, ?_⟩ mode cause pause ⟨rfl, rfl⟩ rfl)
  · dsimp only; rw [mode]; exact prot
  · dsimp only; rw [mode]; exact air

theorem onProt_plantWf {s : State} (f : Protection → Protection) (h : s.PlantWf)
    (wf : (f s.plant.prot).wf s.plant.arb.mode)
    (phases : (f s.plant.prot).defrost = s.plant.prot.defrost ∧
      (f s.plant.prot).trip = s.plant.prot.trip) : (s.onProt f).plantTrigger.PlantWf := by
  obtain ⟨arb, -, air⟩ := ((plantWf_iff s).mp h).1
  exact plantTrigger_plantWf (plantWf_of_plant h ⟨arb, wf, air⟩ rfl rfl id phases rfl)

theorem closePlant_plantWf {s : State} (mark : Bool) (coherent : s.plant.coherent s.cfg)
    (hr : s.role = .plant) (offline : s.member.station ≠ .online → s.plant.arb.mode = .idle) :
    (s.closePlant mark).PlantWf := by
  have ended : (s.onPlant fun p => { p with flight := none, mark := false }).PlantWf :=
    (plantWf_iff _).mpr ⟨coherent, offline, fun hz => absurd (hr.symm.trans hz) (by simp), by simp⟩
  exact andIf_keeps_of ended fun _ => beginPlant_plantWf ended hr

theorem endPlant_plantWf {s : State} {f : PlantFlight} (h : s.PlantWf)
    (hf : s.plant.flight = some f) : (s.endPlant f).PlantWf := by
  obtain ⟨coherent, offline, zone, flights⟩ := (plantWf_iff s).mp h
  have hr : s.role = .plant := by
    cases hr : s.role
    · exact absurd (hf.symm.trans (zone hr).2) (by simp)
    · rfl
  unfold endPlant
  split_ifs with hv
  · exact closePlant_plantWf _ coherent hr offline
  · extract_lets new s1
    have agrees := flights f hf
    have hv : f.void = false := by simpa using hv
    have told : ({ s with plant := new } : State).sameBut [.shareFlight, .wire, .announcer] s1 :=
      ((tellShare_changes _ _).mono (by decide)).trans ((tellStatus_changes _ _).mono (by decide))
    obtain ⟨-, role, -, cfg, -⟩ := told.of_not_mem (i := .fixed) (by decide)
    have station : s1.member.station = s.member.station := told.of_not_mem (i := .station) (by decide)
    obtain ⟨arb, air, prot⟩ := told.of_not_mem (i := .sequencer) (by decide)
    refine closePlant_plantWf _ ?_ (role.trans hr) fun ho => ?_
    · have worked := Plant.afterReckoning_coherent _ coherent hv agrees s.timer_isRunning
      unfold Plant.coherent
      rwa [cfg, arb, air, prot]
    · rw [station] at ho
      obtain ⟨-, -, -, -, -, noted, -⟩ := agrees hv
      have offlineNoted : f.online = false :=
        Bool.eq_false_iff.mpr fun hn => ho (beq_iff_eq.mp (noted hn))
      rw [arb]
      exact (Plant.afterReckoning_mode_offline offlineNoted).trans (offline ho)

/-! ### The part as a whole -/

theorem released_plantWf (role : Role) (a : Nat) (x y : Level) :
    (State.released role a x y).PlantWf := by
  refine (plantWf_iff _).mpr ⟨⟨?_, ?_, ?_⟩, fun _ => rfl, fun _ => ⟨rfl, rfl⟩, fun f hf => ?_⟩
  · exact (by decide : Arbitration.reset.wf)
  · exact (by decide : Protection.reset.wf .idle)
  · exact (by decide : Air.reset.wf Config.defaults .idle)
  · cases hf

/-- A new configuration leaves an idle plant coherent: its Qb is 0, whatever Qmax is. -/
theorem endStart_plantWf {s : State} (image : List Byte) (h : s.PlantWf)
    (hs : s.member.station = .start) : (s.endStart image).PlantWf := by
  obtain ⟨⟨arb, prot, air⟩, offline, zone, flights⟩ := (plantWf_iff s).mp h
  obtain ⟨call, cap, fan, rest⟩ := air
  have idle : s.plant.arb.mode = .idle := offline (by simp [hs])
  obtain ⟨qt, qb, kc⟩ := rest (.inl idle)
  have configured : (s.configured (load s.role image)).PlantWf := by
    refine (plantWf_iff _).mpr ⟨⟨arb, prot, call, cap, ?_, rest⟩, offline, zone, flights⟩
    rw [show (s.configured (load s.role image)).plant.air.fanOut = s.plant.air.fanOut from rfl, fan]
    simp [fanDemand, qb, State.configured]
  refine enterStation_plantWf _ (plantWf_offPlant ?_ configured)
  exact (((takeProduct_changes _).mono (by decide)).trans ((startTimers_changes _).mono
    (by decide))).trans ((compareContacts_changes _).mono (by decide))

end State

open State in
/-- Every command keeps the plant sequencer coherent. -/
theorem exec_plantWf (c : Instr) (s t : State) (h : s.PlantWf) (hexec : exec c s = .next t) :
    t.PlantWf := by
  by_cases spares : sparesReckonings c = true
  · exact plantWf_reckons.exec h hexec spares
  cases c <;> try exact absurd rfl spares
  all_goals obtain rfl := Host.Outcome.next.inj hexec
  case reset role a x y => exact released_plantWf role a.toNat x y
  case resetAsserted =>
    exact released_plantWf s.role s.address s.sensing.contact1.level s.sensing.contact2.level
  case startEnd image =>
    exact takeExpiry_keeps h fun d _ => andIf_keeps_of (P := PlantWf) h fun hs =>
      endStart_plantWf (s := s.reach d) image h (beq_iff_eq.mp hs)
  case agingExpiry =>
    refine takeExpiry_keeps h fun d _ => ?_
    dsimp only
    split_ifs
    · exact h
    · exact tableBecomes_plantWf (s := State.onMember _ _) _ _ h
  case announce | plantStatus =>
    exact plantWf_reckons.takeFrame (fun f u hu => handRecord_plantWf f hu) h
  case tableWriteApplied =>
    refine take_keeps (fun u hu => ?_) s h
    unfold applyWaitingWrite
    split
    · exact hu
    · split_ifs
      · exact hu
      · exact tableRecord_plantWf (s := State.onLine _ _) _ _ hu
  case snapshotEnd unit => exact take_keeps (fun u hu => endSnapshot_plantWf unit hu) s h
  case clear endStop =>
    refine plantWf_reckons.serve (fun f u hu => plantWf_reckons.placeReply _ _ _ _
      (plantWf_reckons.promptFlags _ ?_)) h
    have cleared : (u.senseEndStop endStop).clearDrive.PlantWf :=
      plantWf_offPlant ((sameBut_of_drives (clearDrive_frame _)).mono (by decide)) hu
    unfold clearLockout
    split
    · exact cleared
    · exact plantTrigger_plantWf (plantWf_of_plant cleared ((plantWf_iff _).mp cleared).1 rfl rfl id
        ⟨rfl, rfl⟩ rfl)
  case restartCarriedOut => exact take_keeps (fun u hu => carryOutRestart_plantWf hu) s h
  case sampleTimerExpiry a b =>
    exact takeExpiry_keeps h fun d _ => handOver_plantWf (s := State.sampleChannels _ _ _) _ h
  case debounceExpiry k =>
    exact takeExpiry_keeps h fun d _ => contactChanged_plantWf _ k
      (plantWf_offPlant ((onContact_changes (s.reach d) k _).mono (by decide)) h)
  case shareReckoningEnd endStop =>
    exact take_keeps (fun u hu => plantWf_offPlant ((u.shareEnds_changes endStop).mono (by decide)) hu)
      s h
  case plantTimerExpiry =>
    exact takeExpiry_keeps h fun d _ => plantTrigger_plantWf (boostStep_plantWf (slewStep_plantWf
      (s := State.onPlant _ _) h))
  case plantReckoningEnd =>
    refine take_keeps (fun u hu => ?_) s h
    unfold plantEnds
    split
    · exact hu
    · split_ifs
      · exact endPlant_plantWf (s := u.reach _) hu ‹_›
      · exact hu
  case minOnExpiry =>
    refine takeExpiry_keeps h fun d hd => onArb_plantWf (s := s.reach d) _ h ?_ rfl rfl id
    obtain ⟨valve, startHeld, runHeld, minOn, rest⟩ := h.1
    exact ⟨valve, startHeld, runHeld, by simpa [hd] using minOn, rest⟩
  case minOffExpiry =>
    refine andIf_keeps_of h fun _ => takeExpiry_keeps h fun d hd =>
      onArb_plantWf (s := s.reach d) _ h ?_ rfl rfl id
    obtain ⟨valve, startHeld, runHeld, minOn, dwell, minOff, rest⟩ := h.1
    exact ⟨valve, startHeld, runHeld, minOn, dwell, by simpa [hd] using minOff, rest⟩
  case dwellExpiry =>
    refine takeExpiry_keeps h fun d hd => onArb_plantWf (s := s.reach d) _ h ?_ rfl rfl id
    obtain ⟨valve, startHeld, runHeld, minOn, dwell, rest⟩ := h.1
    exact ⟨valve, startHeld, runHeld, minOn, by simpa [hd] using dwell, rest⟩
  case changeoverPauseExpiry =>
    refine takeExpiry_keeps h fun d hd => onArb_plantWf (s := s.reach d) _ h ?_ rfl rfl (by simp)
    obtain ⟨valve, startHeld, runHeld, minOn, dwell, minOff, -, -, cause⟩ := h.1
    refine ⟨valve, startHeld, runHeld, minOn, dwell, ?_, by simp, by simp, cause⟩
    cases hm : s.plant.arb.minOff <;> simpa [hm] using minOff
  case frostTimerExpiry =>
    refine takeExpiry_keeps h fun d hd => onProt_plantWf (s := s.reach d) _ h ?_ ⟨rfl, rfl⟩
    obtain ⟨guard, trip, timer, frost, rest⟩ := h.2.1
    exact ⟨guard, trip, timer, fun _ => frost (by simp [hd]), rest⟩
  case tripTimerExpiry =>
    refine takeExpiry_keeps h fun d hd => onProt_plantWf (s := s.reach d) _ h ?_ ⟨rfl, rfl⟩
    obtain ⟨guard, trip, timer, rest⟩ := h.2.1
    exact ⟨guard, trip, by simpa [hd] using timer, rest⟩
  case defrostOverlongExpiry =>
    refine takeExpiry_keeps h fun d hd => onProt_plantWf (s := s.reach d) _ h ?_ ⟨rfl, rfl⟩
    obtain ⟨guard, trip, timer, frost, high, defrost, boost, noBoost, count, held, overlong, flag⟩ := h.2.1
    exact ⟨guard, trip, timer, frost, high, defrost, boost, noBoost, count, held,
      by simpa [hd] using overlong, flag⟩

/-- Settles O58: each of the sequencer's operations leaves the plant coherent, and leaving ONLINE forces
it to IDLE. -/
theorem everyStepKeepsThePlantCoherent : Obligations.EveryStepKeepsThePlantCoherent :=
  step_keeps (fun _ _ _ h => h) exec_plantWf

end Sys2Proof.Machine
end

section
/-! PROOF. Every step keeps the peer table well formed (R12 to R17). -/

namespace Sys2Proof.Machine

/-! ### The operations on the table -/

theorem zoneRecord_ofBody_wf (b : List Byte) : (ZoneRecord.ofBody b).wf :=
  ⟨(clampNat_mem (by omega)).2, clampNat_mem (by omega), clampNat_mem (by omega),
    (clampNat_mem (by omega)).2, clampInt_mem (by omega), (clampNat_mem (by omega)).2,
    (clampNat_mem (by omega)).2⟩

theorem plantRecord_ofBody_wf (b : List Byte) : (PlantRecord.ofBody b).wf :=
  ⟨(clampNat_mem (by omega)).2, (clampNat_mem (by omega)).2, clampNat_mem (by omega),
    (clampNat_mem (by omega)).2⟩

/-- A received record is stored in its ranges (R13). -/
theorem frame_record_wf (f : Frame) : f.record.wf = true := by
  unfold Frame.record
  split
  · exact decide_eq_true (zoneRecord_ofBody_wf f.body)
  · exact decide_eq_true (plantRecord_ofBody_wf f.body)

theorem staleLimit_pos (r : Role) : 0 < staleLimit r := by cases r <;> decide

theorem newEntry_wf {own a : Nat} {r : Record} (ha : 1 ≤ a ∧ a ≤ 63) (hown : a ≠ own)
    (hr : r.wf = true) : (newEntry a r).wf own := by
  have := staleLimit_pos (newEntry a r).role
  refine ⟨ha, hown, Nat.zero_le _, (by decide : 1 ≤ 255), ?_, hr⟩
  simp [newEntry] at *
  omega

theorem Entry.refresh_wf {own : Nat} {e : Entry} {r : Record} (h : e.wf own) (hr : r.wf = true) :
    (e.refresh r).wf own := by
  obtain ⟨range, other, -⟩ := h
  have := staleLimit_pos (e.refresh r).role
  refine ⟨range, other, Nat.zero_le _, wrap256_le _, ?_, hr⟩
  simp [Entry.refresh] at *
  omega

/-- An entry one second older that stays in the table (R17). -/
theorem Entry.older_wf {own : Nat} {e : Entry} (h : e.wf own) (ho : e.older.age ≠ 180) :
    e.older.wf own := by
  obtain ⟨range, other, age, heard, standing, record⟩ := h
  have aged : e.older.age = e.age + 1 := by simp [Entry.older, saturate]; omega
  refine ⟨range, other, by omega, heard, ?_, record⟩
  have role : e.older.role = e.role := rfl
  have stands : e.older.standing = if e.age + 1 = staleLimit e.role then .stale else e.standing := by
    rw [← aged]
    simp [Entry.older]
  rw [role, aged, stands]
  split_ifs with hl
  · simp [hl]
  · rw [standing]
    omega

theorem Table.wf_sublist {own : Nat} {table sub : List Entry} (h : Table.wf own table)
    (hs : sub.Sublist table) : Table.wf own sub := by
  obtain ⟨length, nodup, order, entries⟩ := h
  exact ⟨hs.length_le.trans length, nodup.sublist (hs.map _), order.sublist hs,
    fun e he => entries e (hs.subset he)⟩

/-- A change of each entry by itself that keeps its address. -/
theorem Table.wf_map {own : Nat} {table : List Entry} (f : Entry → Entry) (h : Table.wf own table)
    (address : ∀ e, (f e).address = e.address) (entry : ∀ e ∈ table, (f e).wf own) :
    Table.wf own (table.map f) := by
  obtain ⟨length, nodup, order, -⟩ := h
  refine ⟨by simpa using length, ?_, ?_, by simpa using entry⟩
  · rw [List.map_map]
    exact (List.map_congr_left (fun e _ => address e) : table.map (Entry.address ∘ f) = _) ▸ nodup
  · rw [List.pairwise_map]
    simpa only [address] using order

theorem refreshEntry_wf {own a : Nat} {table : List Entry} {r : Record} (h : Table.wf own table)
    (hr : r.wf = true) : Table.wf own (refreshEntry table a r) := by
  have entries := h.2.2.2
  refine Table.wf_map _ h (fun e => ?_) fun e he => ?_
  · split_ifs <;> rfl
  · split_ifs
    · exact Entry.refresh_wf (entries e he) hr
    · exact entries e he

theorem ageTable_wf {own : Nat} {table : List Entry} (h : Table.wf own table) :
    Table.wf own (ageTable table) := by
  have kept : ageTable table = (table.filter fun e => e.older.age != 180).map Entry.older := by
    rw [ageTable, List.filter_map]
    rfl
  have entries := h.2.2.2
  rw [kept]
  refine Table.wf_map _ (Table.wf_sublist h List.filter_sublist) (fun _ => rfl) fun e he => ?_
  rw [List.mem_filter] at he
  exact Entry.older_wf (entries e he.1) (by simpa using he.2)

/-- An entry of a new address takes its place at the tail of its chain. -/
theorem admitEntry_wf {own : Nat} {table : List Entry} {e : Entry} (h : Table.wf own table)
    (room : table.length < 24) (new : ∀ x ∈ table, x.address ≠ e.address) (he : e.wf own) :
    Table.wf own (admitEntry table e) := by
  obtain ⟨-, nodup, order, entries⟩ := h
  have parts : List.Perm ((table.filter fun x => decide (chainOf x.address ≤ chainOf e.address)) ++
      table.filter fun x => decide (chainOf e.address < chainOf x.address)) table := by
    have opposite : (fun x : Entry => decide (chainOf e.address < chainOf x.address)) =
        fun x => !decide (chainOf x.address ≤ chainOf e.address) := by
      funext x
      by_cases hx : chainOf x.address ≤ chainOf e.address <;> simp [hx, Nat.lt_of_not_le]
    rw [opposite]
    exact List.filter_append_perm _ table
  have whole : List.Perm (admitEntry table e) (e :: table) :=
    List.perm_middle.trans (parts.cons e)
  have mem {x : Entry} (hx : x ∈ admitEntry table e) : x = e ∨ x ∈ table := by
    simpa using whole.mem_iff.mp hx
  refine ⟨?_, ?_, ?_, fun x hx => ?_⟩
  · rw [whole.length_eq, List.length_cons]
    omega
  · refine ((whole.map Entry.address).nodup_iff).mpr ?_
    rw [List.map_cons, List.nodup_cons, List.mem_map]
    exact ⟨fun ⟨x, hx, hxe⟩ => new x hx hxe, nodup⟩
  · rw [admitEntry, List.pairwise_append]
    refine ⟨order.filter _, ?_, ?_⟩
    · rw [List.pairwise_cons]
      exact ⟨fun x hx => by simp at hx; omega, order.filter _⟩
    · intro x hx y hy
      simp only [List.mem_filter, decide_eq_true_eq] at hx
      rcases List.mem_cons.mp hy with rfl | hy
      · exact hx.2
      · simp only [List.mem_filter, decide_eq_true_eq] at hy
        omega
  · rcases mem hx with rfl | hx
    · exact he
    · exact entries x hx

theorem victim_mem {table : List Entry} {v : Entry} (h : victim table = some v) : v ∈ table :=
  List.mem_of_find?_eq_some h

theorem removeEntry_length_lt {table : List Entry} {v : Entry} (h : v ∈ table) :
    (removeEntry table v.address).length < table.length := by
  refine List.length_filter_lt_length_iff_exists.mpr ⟨v, h, by simp⟩

theorem mem_removeEntry {table : List Entry} {a : Nat} {e : Entry} (h : e ∈ removeEntry table a) :
    e ∈ table := (List.mem_filter.mp h).1

theorem address_ne_of_findEntry_none {table : List Entry} {a : Nat} (h : findEntry table a = none) :
    ∀ e ∈ table, e.address ≠ a := by
  simpa [findEntry] using h

theorem Table.wf_nil (own : Nat) : Table.wf own [] := by simp [Table.wf]

/-! ### The state with its table -/

namespace State

theorem tableWf_of_sameBut {s t : State} {a : List Item} (h : s.sameBut a t) (hf : .fixed ∉ a)
    (hr : .roster ∉ a) (hc : .current ∉ a) (hs : s.TableWf) : t.TableWf := by
  obtain ⟨-, -, address, -⟩ := h.of_not_mem hf
  obtain ⟨table, -⟩ := h.of_not_mem hr
  have current : t.line.current = s.line.current := h.of_not_mem hc
  unfold TableWf
  rwa [address, table, current]

@[simp] theorem tableBecomes_table (s : State) (table : List Entry) (changed : Bool) :
    (s.tableBecomes table changed).member.table = table := by
  obtain ⟨o, f, m, g, n, l, a, b, h⟩ := s.tableBecomes_frame table changed
  rw [h]

/-- A change to a well-formed table, whatever it tells. -/
theorem tableBecomes_tableWf {s : State} {table : List Entry} (h : s.TableWf)
    (ht : Table.wf s.address table) (changed : Bool) : (s.tableBecomes table changed).TableWf := by
  have reached := s.tableBecomes_changes table changed
  obtain ⟨-, -, address, -⟩ := reached.of_not_mem (i := .fixed) (by decide)
  have current : (s.tableBecomes table changed).line.current = s.line.current :=
    reached.of_not_mem (i := .current) (by decide)
  refine ⟨by rwa [address, tableBecomes_table], ?_⟩
  rw [address, current]
  exact h.2

theorem tableRecord_tableWf {s : State} {a : Nat} {r : Record} (h : s.TableWf)
    (ha : 1 ≤ a ∧ a ≤ 63) (hown : a ≠ s.address) (hr : r.wf = true) :
    (s.tableRecord a r).TableWf := by
  have fresh := newEntry_wf (own := s.address) ha hown hr
  unfold tableRecord
  split
  · have refreshed := tableBecomes_tableWf h (refreshEntry_wf (a := a) h.1 hr)
    exact tableWf_of_sameBut ((sameBut_andIf shareTrigger_changes _ _).mono
      (b := [.shareFlight, .plantFlight]) (by decide) |>.trans ((sameBut_andIf plantTrigger_changes _ _).mono
      (by decide))) (by decide) (by decide) (by decide) (refreshed _)
  · rename_i hnone
    have new := address_ne_of_findEntry_none hnone
    split_ifs with room
    · exact tableBecomes_tableWf h (admitEntry_wf h.1 room new fresh) true
    · split
      · rename_i v hv
        have shorter := removeEntry_length_lt (victim_mem hv)
        have removed : Table.wf s.address (removeEntry s.member.table v.address) :=
          Table.wf_sublist h.1 List.filter_sublist
        exact tableBecomes_tableWf h (admitEntry_wf removed (by have := h.1.1; omega)
          (fun e he => new e (mem_removeEntry he)) fresh) true
      · exact h


theorem Frame.src_le {f : Frame} {k : FrameKind} (h : f.isKind k = true) : f.src.toNat ≤ 63 := by
  have form : f.form = some k := by simpa [Frame.isKind] using h
  unfold Frame.form at form
  split at form
  · split_ifs at form with hc
    simp only [Bool.and_eq_true, decide_eq_true_eq] at hc
    exact hc.2
  · cases form

/-- A frame that may wait comes from an address of another station. -/
theorem Frame.src_of_tabled {f : Frame} {own : Nat} (h : f.tabled own) :
    (1 ≤ f.src.toNat ∧ f.src.toNat ≤ 63) ∧ f.src.toNat ≠ own := by
  obtain ⟨kind, other, notOwn⟩ := h
  exact ⟨⟨by omega, kind.elim src_le src_le⟩, notOwn⟩

theorem handRecord_tableWf {s : State} {f : Frame} (h : s.TableWf)
    (hf : f.isKind .announce = true ∨ f.isKind .plantStatus = true) : (s.handRecord f).TableWf := by
  unfold handRecord
  split_ifs with hzero hown
  · exact h
  · exact tableWf_of_sameBut s.duplicateEvidence_changes (by decide) (by decide) (by decide) h
  all_goals
    have zero : f.src.toNat ≠ 0 := by simpa using hzero
    have tabled : f.tabled s.address := ⟨hf, zero, by simpa [fromOwn, zero] using hown⟩
  · exact ⟨h.1, by simpa using tabled⟩
  · exact tableRecord_tableWf h (Frame.src_of_tabled tabled).1 (Frame.src_of_tabled tabled).2 (frame_record_wf f)

theorem applyWaitingWrite_tableWf {s : State} (h : s.TableWf) : s.applyWaitingWrite.TableWf := by
  unfold applyWaitingWrite
  split
  · exact h
  · rename_i f hf
    split_ifs
    · exact h
    · have tabled := h.2 f (by simp [hf])
      exact tableRecord_tableWf ⟨h.1, by simp⟩ (Frame.src_of_tabled tabled).1 (Frame.src_of_tabled tabled).2 (frame_record_wf f)

theorem applyAging_tableWf {s : State} (h : s.TableWf) : s.applyAging.TableWf :=
  tableBecomes_tableWf h (ageTable_wf h.1) _

theorem applyEmptying_tableWf {s : State} (h : s.TableWf) (followed : Bool) :
    (s.applyEmptying followed).TableWf := tableBecomes_tableWf h (Table.wf_nil _) _

theorem occupationEnds_tableWf {s : State} (h : s.TableWf) : s.occupationEnds.TableWf := by
  unfold occupationEnds
  split_ifs
  · exact h
  · extract_lets s1 s2
    have aged : s2.TableWf := iterate_keeps (fun _ hu => applyAging_tableWf hu) _ h
    split
    · exact aged
    · split_ifs
      · exact aged
      · exact applyEmptying_tableWf (s := s2.onMember fun m => { m with emptying := none }) aged _

theorem endSnapshot_tableWf {s : State} (h : s.TableWf) (unit : ReckoningUnit) :
    (s.endSnapshot unit).TableWf := by
  unfold endSnapshot
  split
  · split
    · exact occupationEnds_tableWf (s := onShare _ _) h
    · exact h
  · split
    · split_ifs
      · exact occupationEnds_tableWf (s := onPlant _ _) h
      · exact h
    · exact h

theorem emptyTable_tableWf {s : State} (h : s.TableWf) : s.emptyTable.TableWf := by
  unfold emptyTable
  extract_lets followed
  split_ifs
  · exact h
  · exact applyEmptying_tableWf h _

theorem carryOutRestart_tableWf {s : State} (h : s.TableWf) : s.carryOutRestart.TableWf := by
  unfold carryOutRestart
  split
  · exact h
  · split_ifs
    · exact tableWf_of_sameBut (enterStation_changes _ _) (by decide) (by decide) (by decide)
        (emptyTable_tableWf (s := onMember _ _) h)
    · exact h

end State

open State in
/-- Every command keeps the peer table well formed. -/
theorem exec_tableWf (c : Instr) (s t : State) (h : s.TableWf) (hexec : exec c s = .next t) :
    t.TableWf := by
  by_cases spared : ∃ a, touches c = some a ∧ .fixed ∉ a ∧ .roster ∉ a ∧ .current ∉ a
  · obtain ⟨a, ha, hf, hr, hc⟩ := spared
    exact tableWf_of_sameBut (exec_changes ha hexec) hf hr hc h
  have heard (k : FrameKind) (hk : ∀ f : Frame, f.isKind k = true →
      f.isKind .announce = true ∨ f.isKind .plantStatus = true) :
      (s.takeFrame (fun f => f.isKind k) fun f u => u.handRecord f).TableWf := by
    refine takeFrame_keeps (P := TableWf) (fun _ _ hu => hu) (fun f u hf hu => ?_) s h
    exact handRecord_tableWf hu (hk f hf)
  cases c <;> try exact absurd ⟨_, rfl, by decide, by decide, by decide⟩ spared
  all_goals obtain rfl := Host.Outcome.next.inj hexec
  case reset role a x y => exact ⟨Table.wf_nil _, by simp [State.released, Line.reset]⟩
  case resetAsserted => exact ⟨Table.wf_nil _, by simp [assertReset, State.released, Line.reset]⟩
  case startEnd image =>
    refine takeExpiry_keeps h fun d _ => andIf_keeps_of (P := TableWf) h fun _ => ?_
    refine tableWf_of_sameBut (endStart_rest_changes _ image) (by decide) (by decide) (by decide) ?_
    exact tableWf_of_sameBut (takeProduct_changes _) (by decide) (by decide) (by decide)
      (s := configured _ _) h
  case agingExpiry =>
    refine takeExpiry_keeps h fun d _ => ?_
    dsimp only
    split_ifs
    · exact h
    · exact applyAging_tableWf (s := (s.reach d).onMember fun m =>
        { m with aging := (s.reach d).timer Config.agingMs }) h
  case announce => exact heard .announce fun f hk => .inl hk
  case plantStatus => exact heard .plantStatus fun f hk => .inr hk
  case tableWriteApplied =>
    exact take_keeps (P := TableWf) (fun u hu => applyWaitingWrite_tableWf hu) s h
  case snapshotEnd unit =>
    exact take_keeps (P := TableWf) (fun u hu => endSnapshot_tableWf hu unit) s h
  case restartCarriedOut =>
    exact take_keeps (P := TableWf) (fun u hu => carryOutRestart_tableWf hu) s h

/-- Settles O53: each of the ways the table becomes another keeps it well formed. -/
theorem everyStepKeepsTheTableWellFormed : Obligations.EveryStepKeepsTheTableWellFormed :=
  step_keeps (fun _ _ _ h => h) exec_tableWf

end Sys2Proof.Machine
end

section
/-! PROOF. Every step keeps the reckonings and the occupation of the table orderly (R11, R19, R23, R63,
R107). -/

namespace Sys2Proof.Machine

/-- All the frame handler can do at a frame event: nothing, or it takes the older frame of the pair,
to discard it in START and to act on it elsewhere. -/
theorem State.takeFrame_cases (s : State) (named : Frame → Bool) (act : Frame → State → State) :
    s.takeFrame named act = s ∨ ∃ f rest, s.atFront f rest ∧ named f = true ∧
      ((s.member.station = .start ∧ s.takeFrame named act = s.taken rest) ∨
        (s.member.station ≠ .start ∧ s.takeFrame named act = act f (s.taken rest))) := by
  unfold State.takeFrame State.take
  split
  · exact .inl rfl
  · rename_i running
    dsimp only
    split
    · rename_i f rest free front
      split
      · rename_i hn
        refine .inr ⟨f, rest, ⟨by simpa using running, free, front⟩, hn, ?_⟩
        by_cases hs : s.member.station = .start
        · exact .inl ⟨hs, if_pos (by simp [hs])⟩
        · exact .inr ⟨hs, if_neg (by simp [hs])⟩
      · exact .inl rfl
    · exact .inl rfl
    · exact .inl rfl

/-! ### The followed plant (R19) -/

theorem Entry.freshPlant_isSome (e : Entry) :
    e.freshPlant.isSome = (e.standing == .fresh && e.role == .plant) := by
  obtain ⟨a, standing, age, heard, record⟩ := e
  cases standing <;> cases record <;> rfl

/-- A change of each entry by itself that keeps its address, its standing and its role. -/
theorem freshPlants_map {table : List Entry} {f : Entry → Entry}
    (address : ∀ e, (f e).address = e.address)
    (kept : ∀ e ∈ table, (f e).freshPlant.isSome = e.freshPlant.isSome) :
    freshPlants (table.map f) = freshPlants table := by
  unfold freshPlants
  rw [List.filter_map, List.map_map,
    List.filter_congr (q := fun e => e.freshPlant.isSome) (by simpa using kept)]
  exact List.map_congr_left fun e _ => address e

theorem mem_of_findEntry {table : List Entry} {a : Nat} {e : Entry} (h : findEntry table a = some e) :
    e ∈ table ∧ e.address = a :=
  ⟨List.mem_of_find?_eq_some h, by simpa using List.find?_some h⟩

/-- In a well-formed table an address has one entry. -/
theorem eq_of_findEntry {own a : Nat} {table : List Entry} {old e : Entry} (h : Table.wf own table)
    (hold : findEntry table a = some old) (he : e ∈ table) (ha : e.address = a) : e = old := by
  obtain ⟨-, nodup, -⟩ := h
  obtain ⟨member, address⟩ := mem_of_findEntry hold
  exact List.inj_on_of_nodup_map nodup he member (ha.trans address.symm)

/-- A FRESH peer heard again in its role leaves the FRESH PLANT entries. -/
theorem freshPlants_refreshEntry {own a : Nat} {table : List Entry} {old : Entry} {r : Record}
    (h : Table.wf own table) (hold : findEntry table a = some old)
    (kept : (old.standing == .stale || old.role != r.role) = false) :
    freshPlants (refreshEntry table a r) = freshPlants table := by
  refine freshPlants_map (fun e => by split_ifs <;> rfl) fun e he => ?_
  split_ifs with ha
  · obtain rfl := eq_of_findEntry h hold he (by simpa using ha)
    have role : (e.refresh r).role = r.role := by cases r <;> rfl
    have standing : (e.refresh r).standing = .fresh := rfl
    simp only [Bool.or_eq_false_iff, beq_eq_false_iff_ne, bne_eq_false_iff_eq] at kept
    rw [Entry.freshPlant_isSome, Entry.freshPlant_isSome, role, standing, ← kept.2]
    cases hs : e.standing
    · rfl
    · exact absurd hs kept.1
  · rfl

/-- An aging expiry that neither removes an entry nor turns one STALE leaves the FRESH PLANT entries. -/
theorem freshPlants_ageTable {table : List Entry} (h : agingChanges table = false) :
    freshPlants (ageTable table) = freshPlants table := by
  have still : ∀ e ∈ table, e.older.standing = e.standing ∧ e.older.age ≠ 180 := by
    simpa [agingChanges] using h
  have all : ageTable table = table.map Entry.older := by
    rw [ageTable, List.filter_eq_self]
    simpa using fun e he => (still e he).2
  rw [all]
  refine freshPlants_map (fun _ => rfl) fun e he => ?_
  rw [Entry.freshPlant_isSome, Entry.freshPlant_isSome, (still e he).1]
  rfl

theorem followedOf_of_freshPlants {table table' : List Entry}
    (h : freshPlants table' = freshPlants table) (role : Role) :
    followedOf role table' = followedOf role table := by
  cases role
  · exact congrArg lowest h
  · rfl

theorem followedOf_nil (role : Role) : followedOf role [] = none := by cases role <;> rfl

/-! ### Triggers and the occupation (R63, R107) -/

namespace State
variable {s t : State}

/-- The items on which no reckoning's order bears. -/
abbrev offReckonings : List Item :=
  [.clock, .station, .stationTimers, .aging, .memberLatches, .restarts, .channels, .contacts, .sample,
    .setpoints, .demand, .announcer, .shareResult, .drive, .sequencer, .plantTimer, .unplaced, .current,
    .pair, .latches, .counters, .wire, .responder]

/-- A pending mark stands only with its reckoning in flight. -/
def marksWf (s : State) : Prop :=
  (s.share.mark = true → s.share.flight.isSome = true) ∧
  (s.plant.mark = true → s.plant.flight.isSome = true)

/-- The flights move on from s to t: the marks are in order in t, and an occupied table stays so. -/
structure fliesOn (s t : State) : Prop where
  marks : s.marksWf → t.marksWf
  occupied : s.occupied = true → t.occupied = true

theorem occupied_iff (s : State) : s.occupied = true ↔
    (∃ f, s.share.flight = some f ∧ f.phase = .snapshot) ∨
      (∃ f, s.plant.flight = some f ∧ f.phase = .snapshot) := by
  unfold occupied
  cases s.share.flight <;> cases s.plant.flight <;> simp

theorem fliesOn_refl (s : State) : s.fliesOn s := ⟨id, id⟩

theorem fliesOn.trans {u : State} (h : s.fliesOn t) (k : t.fliesOn u) : s.fliesOn u :=
  ⟨k.marks ∘ h.marks, k.occupied ∘ h.occupied⟩

theorem fliesOn_of_sameBut {a : List Item} (h : s.sameBut a t) (hs : .shareFlight ∉ a)
    (hp : .plantFlight ∉ a) : s.fliesOn t := by
  obtain ⟨share, shareMark⟩ := h.of_not_mem hs
  obtain ⟨plant, plantMark⟩ := h.of_not_mem hp
  constructor
  · unfold marksWf
    rw [share, shareMark, plant, plantMark]
    exact id
  · unfold occupied
    rw [share, plant]
    exact id

theorem shareTrigger_fliesOn (s : State) : s.fliesOn s.shareTrigger := by
  unfold shareTrigger
  split
  · rename_i hn
    refine ⟨fun ⟨_, plant⟩ => ⟨fun _ => rfl, plant⟩, fun ho => ?_⟩
    rw [occupied_iff] at ho ⊢
    simp only [hn, reduceCtorEq, false_and, exists_false, false_or] at ho
    exact .inr ho
  · rename_i f hf
    exact ⟨fun ⟨_, plant⟩ => ⟨fun _ => by simp [hf], plant⟩, id⟩

theorem plantTrigger_fliesOn (s : State) : s.fliesOn s.plantTrigger := by
  unfold plantTrigger
  split
  · exact s.fliesOn_refl
  · split
    · rename_i hn
      refine ⟨fun ⟨share, _⟩ => ⟨share, fun _ => rfl⟩, fun ho => ?_⟩
      rw [occupied_iff] at ho ⊢
      simp only [hn, reduceCtorEq, false_and, exists_false, or_false] at ho
      exact .inl ho
    · rename_i f hf
      exact ⟨fun ⟨share, _⟩ => ⟨share, fun _ => by simp [hf]⟩, id⟩

theorem andIf_fliesOn {act : State → State} (h : ∀ u : State, u.fliesOn (act u)) (s : State) (c : Bool) :
    s.fliesOn (s.andIf c act) := by
  cases c
  · exact s.fliesOn_refl
  · exact h s

theorem membershipChange_fliesOn (s : State) : s.fliesOn s.membershipChange :=
  s.shareTrigger_fliesOn.trans (plantTrigger_fliesOn _)

theorem plantTriggers_fliesOn (changes : List Bool) (s : State) :
    s.fliesOn (s.plantTriggers changes) := by
  induction changes generalizing s with
  | nil => exact s.fliesOn_refl
  | cons c rest ih => exact (andIf_fliesOn plantTrigger_fliesOn s c).trans (ih _)

theorem leftOnline_fliesOn (s : State) : s.fliesOn s.leftOnline := by
  unfold leftOnline
  extract_lets s1 s2
  have stopped : s.fliesOn s1 := fliesOn_of_sameBut (a := [.stationTimers, .announcer])
    (((s.onMember_timer_changes _ rfl).mono (by decide)).trans
      ((onAnnouncer_changes _ _).mono (by decide))) (by decide) (by decide)
  have forced : s1.fliesOn s2 := by
    unfold s2
    split
    · exact s1.fliesOn_refl
    · refine fliesOn.trans (t := s1.onPlant fun p =>
        { p with flight := p.flight.map PlantFlight.makeVoid }) ⟨fun ⟨share, plant⟩ =>
          ⟨share, by simpa using plant⟩, fun ho => ?_⟩ ?_
      · rw [occupied_iff] at ho ⊢
        refine ho.imp id fun ⟨f, hf, hp⟩ => ⟨f.makeVoid, by simp [hf], hp⟩
      · exact (fliesOn_of_sameBut (onPlant_sequencer_changes _ _ rfl) (by decide) (by decide)).trans
          (andIf_fliesOn shareTrigger_fliesOn _ _)
  exact (stopped.trans forced).trans ((shareTrigger_fliesOn _).trans (plantTrigger_fliesOn _))

theorem entered_fliesOn (s : State) : s.fliesOn s.entered := by
  unfold entered
  split
  · exact s.fliesOn_refl
  · exact s.fliesOn_refl
  · exact fliesOn_of_sameBut (s.onMember_timer_changes _ rfl) (by decide) (by decide)
  · exact fliesOn_of_sameBut (s.placePeriodic_changes _ _) (by decide) (by decide)
  · exact fliesOn_of_sameBut (s.onMember_timer_changes _ rfl) (by decide) (by decide)
  · exact (((fliesOn_of_sameBut (s.onMember_timer_changes _ rfl) (by decide) (by decide)).trans
      (shareTrigger_fliesOn _)).trans (plantTrigger_fliesOn _)).trans
      (fliesOn_of_sameBut (placeAnnouncement_changes _) (by decide) (by decide))

theorem enterStation_fliesOn (s : State) (x : Station) : s.fliesOn (s.enterStation x) :=
  ((fliesOn_of_sameBut (s.moveTo_changes x) (by decide) (by decide)).trans
    (andIf_fliesOn leftOnline_fliesOn _ _)).trans (entered_fliesOn _)

/-! ### What keeps the order -/

/-- With roster and waits as they were, the order is kept where the flights move on. -/
theorem reckoningWf_of_fliesOn {a : List Item} (h : s.sameBut a t) (hf : .fixed ∉ a)
    (hr : .roster ∉ a) (hw : .waits ∉ a) (flies : s.fliesOn t) (hs : s.ReckoningWf) :
    t.ReckoningWf := by
  obtain ⟨-, role, -⟩ := h.of_not_mem hf
  obtain ⟨table, followed⟩ := h.of_not_mem hr
  obtain ⟨deferred, emptying⟩ := h.of_not_mem hw
  obtain ⟨share, plant, aging, empties, follows⟩ := hs
  obtain ⟨share', plant'⟩ := flies.marks ⟨share, plant⟩
  refine ⟨share', plant', ?_, ?_, ?_⟩
  · rw [deferred]
    exact fun hd => flies.occupied (aging hd)
  · rw [emptying]
    exact fun he => flies.occupied (empties he)
  · rwa [followed, emptying, role, table]

theorem reckoningWf_of_sameBut (h : s.sameBut offReckonings t) (hs : s.ReckoningWf) : t.ReckoningWf :=
  reckoningWf_of_fliesOn h (by decide) (by decide) (by decide)
    (fliesOn_of_sameBut h (by decide) (by decide)) hs

theorem plantTrigger_reckoningWf (h : s.ReckoningWf) : s.plantTrigger.ReckoningWf :=
  reckoningWf_of_fliesOn s.plantTrigger_changes (by decide) (by decide) (by decide)
    s.plantTrigger_fliesOn h

theorem reckoningWf_reckons : Reckons ReckoningWf where
  quiet h := reckoningWf_of_sameBut (h.mono (by decide))
  enter {s} x := reckoningWf_of_fliesOn (s.enterStation_changes x) (by decide) (by decide) (by decide)
    (s.enterStation_fliesOn x)
  share {s} := reckoningWf_of_fliesOn s.shareTrigger_changes (by decide) (by decide) (by decide)
    s.shareTrigger_fliesOn
  plant := plantTrigger_reckoningWf

/-- While no snapshot occupies the table nothing waits on one. -/
theorem nothing_waits_of_free (h : s.ReckoningWf) (ho : s.occupied = false) :
    s.member.deferred = 0 ∧ s.member.emptying = none := by
  obtain ⟨-, -, aging, empties, -⟩ := h
  rw [ho] at aging empties
  exact ⟨Nat.eq_zero_of_not_pos fun hd => Bool.noConfusion (aging hd),
    Option.not_isSome_iff_eq_none.mp fun he => Bool.noConfusion (empties he)⟩

/-- Where nothing waits, the order is that of the marks and of the followed plant. -/
theorem reckoningWf_of_free (marks : s.marksWf) (deferred : s.member.deferred = 0)
    (emptying : s.member.emptying = none)
    (followed : s.member.followed = followedOf s.role s.member.table) : s.ReckoningWf := by
  obtain ⟨share, plant⟩ := marks
  refine ⟨share, plant, by simp [deferred], by simp [emptying], by simpa [emptying] using followed⟩

/-! ### A change of the table -/

theorem tableBecomes_fliesOn (s : State) (table : List Entry) (changed : Bool) :
    s.fliesOn (s.tableBecomes table changed) :=
  ((fliesOn_of_sameBut (s.onMember_roster_changes _ _) (by decide) (by decide)).trans
    (andIf_fliesOn membershipChange_fliesOn _ _)).trans
    (fliesOn_of_sameBut (promptFlags_changes _ _) (by decide) (by decide))

theorem tableBecomes_role (s : State) (table : List Entry) (changed : Bool) :
    (s.tableBecomes table changed).role = s.role := by
  obtain ⟨-, role, -⟩ := (s.tableBecomes_changes table changed).of_not_mem (i := .fixed) (by decide)
  exact role

theorem tableBecomes_waits (s : State) (table : List Entry) (changed : Bool) :
    (s.tableBecomes table changed).member.deferred = s.member.deferred ∧
      (s.tableBecomes table changed).member.emptying = s.member.emptying :=
  (s.tableBecomes_changes table changed).of_not_mem (i := .waits) (by decide)

/-- The plant followed after a change of the table: the one the table gives, worked out again only
where the handling changed it in one of the ways of R18. -/
theorem tableBecomes_followed (s : State) (table : List Entry) (changed : Bool) :
    (s.tableBecomes table changed).member.followed =
      if changed then followedOf s.role table else s.member.followed := by
  have told : (s.onMember fun m => { m with
      table, followed := if changed then followedOf s.role table else s.member.followed }).sameBut
      [.shareFlight, .plantFlight, .wire, .announcer] (s.tableBecomes table changed) :=
    ((sameBut_andIf membershipChange_changes _ _).mono (by decide)).trans
      ((promptFlags_changes _ _).mono (by decide))
  exact (told.of_not_mem (i := .roster) (by decide)).2

/-- A change of the table that nothing waits on keeps the order, if one that is told of to nobody
leaves the plant that the table gives. -/
theorem tableBecomes_reckoningWf {s : State} {table : List Entry} {changed : Bool} (h : s.ReckoningWf)
    (ho : s.occupied = false)
    (kept : changed = false → followedOf s.role table = followedOf s.role s.member.table) :
    (s.tableBecomes table changed).ReckoningWf := by
  obtain ⟨deferred, emptying⟩ := nothing_waits_of_free h ho
  obtain ⟨share, plant, -, -, followed⟩ := h
  obtain ⟨deferred', emptying'⟩ := s.tableBecomes_waits table changed
  refine reckoningWf_of_free ((s.tableBecomes_fliesOn table changed).marks ⟨share, plant⟩)
    (deferred'.trans deferred) (emptying'.trans emptying) ?_
  rw [tableBecomes_followed, tableBecomes_role, tableBecomes_table]
  cases changed
  · rw [kept rfl]
    simpa [emptying] using followed
  · rfl

theorem tableRecord_reckoningWf {s : State} (table : s.TableWf) (h : s.ReckoningWf)
    (ho : s.occupied = false) (a : Nat) (r : Record) : (s.tableRecord a r).ReckoningWf := by
  unfold tableRecord
  split
  · rename_i old hold
    refine andIf_keeps (fun _ hu => plantTrigger_reckoningWf hu) _ _
      (andIf_keeps (fun _ hu => reckoningWf_reckons.share hu) _ _ ?_)
    exact tableBecomes_reckoningWf h ho fun kept =>
      followedOf_of_freshPlants (freshPlants_refreshEntry table.1 hold kept) _
  · split_ifs
    · exact tableBecomes_reckoningWf h ho (by simp)
    · split
      · exact tableBecomes_reckoningWf h ho (by simp)
      · exact h

theorem applyAging_reckoningWf {s : State} (h : s.ReckoningWf) (ho : s.occupied = false) :
    s.applyAging.ReckoningWf :=
  tableBecomes_reckoningWf h ho fun kept => followedOf_of_freshPlants (freshPlants_ageTable kept) _

theorem handRecord_reckoningWf {s : State} (table : s.TableWf) (h : s.ReckoningWf) (f : Frame) :
    (s.handRecord f).ReckoningWf := by
  unfold handRecord
  split_ifs with _ _ ho
  · exact h
  · exact reckoningWf_reckons.duplicateEvidence h
  · exact h
  · exact tableRecord_reckoningWf table h (by simpa using ho) _ _

theorem applyWaitingWrite_reckoningWf {s : State} (table : s.TableWf) (h : s.ReckoningWf) :
    s.applyWaitingWrite.ReckoningWf := by
  unfold applyWaitingWrite
  split
  · exact h
  · split_ifs with ho
    · exact h
    · exact tableRecord_reckoningWf (s := s.onLine _) ⟨table.1, by simp⟩ h
        (Bool.eq_false_iff.mpr ho) _ _

/-! ### The end of an occupation (R11, R23) -/

/-- What stands while the deferred agings are applied: the marks are in order, nothing is deferred, and
the followed plant is the one the table gives, or none yet where an emptying waits. -/
structure settling (s : State) : Prop where
  marks : s.marksWf
  deferred : s.member.deferred = 0
  followed : s.member.followed = followedOf s.role s.member.table ∨
    (s.member.emptying.isSome = true ∧ s.member.followed = none)

theorem applyAging_settling {s : State} (h : s.settling) : s.applyAging.settling := by
  obtain ⟨marks, deferred, followed⟩ := h
  obtain ⟨deferred', emptying'⟩ := s.tableBecomes_waits (ageTable s.member.table)
    (agingChanges s.member.table)
  refine ⟨(tableBecomes_fliesOn _ _ _).marks marks, deferred'.trans deferred, ?_⟩
  unfold applyAging
  rw [tableBecomes_followed, tableBecomes_role, tableBecomes_table, emptying']
  cases hc : agingChanges s.member.table
  · rw [followedOf_of_freshPlants (freshPlants_ageTable hc)]
    exact followed
  · exact .inl rfl

/-- The order just after a snapshot's end: it holds but for what may wait on an occupation that is
over. -/
structure landed (s : State) : Prop where
  marks : s.marksWf
  followed : s.member.followed =
    if s.member.emptying.isSome then none else followedOf s.role s.member.table

theorem occupationEnds_reckoningWf {s : State} (h : s.landed) : s.occupationEnds.ReckoningWf := by
  obtain ⟨marks, followed⟩ := h
  unfold occupationEnds
  split_ifs with ho
  · exact ⟨marks.1, marks.2, fun _ => ho, fun _ => ho, followed⟩
  extract_lets s1 s2
  have begun : s1.settling := by
    refine ⟨marks, rfl, ?_⟩
    show s.member.followed = _ ∨ (s.member.emptying.isSome = true ∧ s.member.followed = none)
    split_ifs at followed with he
    · exact .inr ⟨he, followed⟩
    · exact .inl followed
  have settled : s2.settling := iterate_keeps (fun _ hu => applyAging_settling hu) _ begun
  have emptying : s2.member.emptying = s.member.emptying :=
    ((sameBut_iterate (fun u => u.tableBecomes_changes _ _) _ s1).of_not_mem (i := .waits)
      (by decide)).2
  obtain ⟨marks2, deferred2, followed2⟩ := settled
  split
  · rename_i he
    rw [he] at emptying
    exact reckoningWf_of_free marks2 deferred2 emptying (by simpa [emptying] using followed2)
  · rename_i b he
    rw [he] at emptying
    split_ifs with ho2
    · exact ⟨marks2.1, marks2.2, fun _ => ho2, fun _ => ho2, by simp [emptying]⟩
    · obtain ⟨deferred3, emptying3⟩ := (s2.onMember fun m => { m with emptying := none
        }).tableBecomes_waits [] (!s2.member.table.isEmpty || b)
      refine reckoningWf_of_free ((tableBecomes_fliesOn _ _ _).marks marks2)
        (deferred3.trans deferred2) emptying3 ?_
      unfold applyEmptying
      rw [tableBecomes_followed, tableBecomes_role, tableBecomes_table, followedOf_nil]
      split_ifs with hc
      · rfl
      · have empty : s2.member.table = [] := by
          simpa using (Bool.or_eq_false_iff.mp (Bool.eq_false_iff.mpr hc)).1
        rcases followed2 with hf | ⟨-, hf⟩
        · exact hf.trans (empty ▸ followedOf_nil _)
        · exact hf

theorem emptyTable_reckoningWf {s : State} (h : s.ReckoningWf) : s.emptyTable.ReckoningWf := by
  unfold emptyTable
  extract_lets followed
  split_ifs with ho
  · obtain ⟨share, plant, -⟩ := h
    exact ⟨share, plant, fun _ => ho, fun _ => ho, by simp⟩
  · obtain ⟨deferred, emptying⟩ := nothing_waits_of_free h (by simpa using ho)
    obtain ⟨deferred', emptying'⟩ := s.tableBecomes_waits [] (!s.member.table.isEmpty || followed)
    have marks := (s.tableBecomes_fliesOn [] (!s.member.table.isEmpty || followed)).marks ⟨h.1, h.2.1⟩
    refine reckoningWf_of_free marks (deferred'.trans deferred) (emptying'.trans emptying) ?_
    exact (show none = followedOf _ (s.tableBecomes [] _).member.table by
      rw [tableBecomes_table, followedOf_nil])

theorem carryOutRestart_reckoningWf {s : State} (h : s.ReckoningWf) : s.carryOutRestart.ReckoningWf := by
  unfold carryOutRestart
  split
  · exact h
  · split_ifs
    · exact reckoningWf_reckons.enter _ (emptyTable_reckoningWf (s := s.onMember _) h)
    · exact h

/-- A snapshot that ends leaves its reckoning in flight. -/
theorem endSnapshot_reckoningWf {s : State} (h : s.ReckoningWf) (unit : ReckoningUnit) :
    (s.endSnapshot unit).ReckoningWf := by
  have kept := h
  obtain ⟨share, plant, -, -, followed⟩ := h
  unfold endSnapshot
  split
  · split
    · exact occupationEnds_reckoningWf ⟨⟨fun _ => rfl, plant⟩, followed⟩
    · exact kept
  · split
    · split_ifs
      · exact occupationEnds_reckoningWf ⟨⟨share, fun _ => rfl⟩, followed⟩
      · exact kept
    · exact kept

/-! ### The end of a reckoning (R63, R107) -/

theorem beginPlant_occupied {s : State} (h : s.occupied = true) (hn : s.plant.flight = none) :
    s.beginPlant.occupied = true := by
  rw [occupied_iff] at h ⊢
  simp only [hn, reduceCtorEq, false_and, exists_false, or_false] at h
  exact .inl h

/-- A computing reckoning occupies nothing: with it over, the table is occupied as before. -/
theorem closePlant_fliesOn {s : State} {f : PlantFlight} (hf : s.plant.flight = some f)
    (hp : f.phase = .computing) (mark : Bool) : s.fliesOn (s.closePlant mark) := by
  have landed : s.fliesOn (s.onPlant fun p => { p with flight := none, mark := false }) := by
    refine ⟨fun ⟨share, _⟩ => ⟨share, by simp⟩, fun ho => ?_⟩
    rw [occupied_iff] at ho ⊢
    exact ho.imp id fun ⟨g, hg, hs⟩ => by simp_all
  unfold closePlant
  dsimp only
  cases mark
  · exact landed
  · refine landed.trans ⟨fun ⟨share, _⟩ => ⟨share, fun _ => rfl⟩, fun ho => ?_⟩
    exact beginPlant_occupied ho rfl

theorem tellShare_fliesOn (s : State) (old : Plant) : s.fliesOn (s.tellShare old) :=
  andIf_fliesOn shareTrigger_fliesOn _ _

theorem tellStatus_fliesOn (s : State) (old : Plant) : s.fliesOn (s.tellStatus old) :=
  fliesOn_of_sameBut (s.tellStatus_changes old) (by decide) (by decide)

theorem endPlant_fliesOn {s : State} {f : PlantFlight} (hf : s.plant.flight = some f)
    (hp : f.phase = .computing) : s.fliesOn (s.endPlant f) := by
  unfold endPlant
  split_ifs
  · exact (fliesOn_of_sameBut (s.onPlant_sequencer_changes _ rfl) (by decide) (by decide)).trans
      (closePlant_fliesOn (s := s.onPlant fun p =>
        { p with arb := p.arb.storeSums (sumsOf f.entries) }) hf hp _)
  · extract_lets new s1
    have worked : s.sameBut [.sequencer] { s with plant := new } :=
      s.onPlant_sequencer_changes (fun _ => new) rfl
    have told : ({ s with plant := new } : State).sameBut [.shareFlight, .wire, .announcer] s1 :=
      ((tellShare_changes _ _).mono (by decide)).trans ((tellStatus_changes _ _).mono (by decide))
    have flight : s1.plant.flight = some f :=
      (told.of_not_mem (i := .plantFlight) (by decide)).1.trans hf
    exact (((fliesOn_of_sameBut worked (by decide) (by decide)).trans (tellShare_fliesOn _ _)).trans
      (tellStatus_fliesOn _ _)).trans (closePlant_fliesOn flight hp _)

theorem plantEnds_reckoningWf {s : State} (h : s.ReckoningWf) : s.plantEnds.ReckoningWf := by
  refine reckoningWf_of_fliesOn s.plantEnds_changes (by decide) (by decide) (by decide) ?_ h
  unfold plantEnds
  split
  · exact s.fliesOn_refl
  · split_ifs with hp
    · exact (fliesOn_of_sameBut (s.sameBut_reach (a := [.clock]) _ (by decide)) (by decide)
        (by decide)).trans (endPlant_fliesOn (s := s.reach _) ‹_› (by simpa using hp))
    · exact s.fliesOn_refl

theorem endShare_fliesOn {s : State} {f : ShareFlight} (hf : s.share.flight = some f)
    (hp : f.phase = .computing) : s.fliesOn (s.endShare f) := by
  unfold endShare
  extract_lets out s1 s2
  have stored (u : Share) (hu : u.mark = false) : s.fliesOn (s.onShare fun _ => u) := by
    refine ⟨fun ⟨_, plant⟩ => ⟨by simp [hu], plant⟩, fun ho => ?_⟩
    rw [occupied_iff] at ho ⊢
    exact .inr (ho.resolve_left fun ⟨g, hg, hs⟩ => by simp_all)
  have landed : s.fliesOn s1 := (stored
    { flight := none, mark := false, record := out, standing := out.position.getD s.share.standing }
    rfl).trans (fliesOn_of_sameBut (handUnplaced_changes _ _) (by decide) (by decide))
  have handed : s1.sameBut [.drive] s2 := by
    unfold s2
    split
    · exact sameBut_of_drives (s1.handTarget_frame _)
    · exact s1.sameBut_refl _
  have none : s2.share.flight = none :=
    (handed.of_not_mem (i := .shareFlight) (by decide)).1.trans
      ((handUnplaced_changes _ _).of_not_mem (i := .shareFlight) (by decide)).1
  refine (landed.trans (fliesOn_of_sameBut handed (by decide) (by decide))).trans ?_
  cases s.share.mark
  · exact s2.fliesOn_refl
  · have trigger : s2.shareTrigger = s2.beginShare := by simp [shareTrigger, none]
    exact (trigger ▸ s2.shareTrigger_fliesOn : s2.fliesOn s2.beginShare)

theorem shareEnds_reckoningWf {s : State} (h : s.ReckoningWf) (endStop : Bool) :
    (s.shareEnds endStop).ReckoningWf := by
  refine reckoningWf_of_fliesOn (s.shareEnds_changes endStop) (by decide) (by decide) (by decide) ?_ h
  unfold shareEnds
  split
  · exact s.fliesOn_refl
  · rename_i f hf
    split_ifs with hp
    · have sensed : s.fliesOn ((s.senseEndStop endStop).reach f.due) := fliesOn_of_sameBut
        (a := [.drive, .clock]) (((s.onDrive_changes _).mono (by decide)).trans
          (sameBut_reach _ _ (by decide))) (by decide) (by decide)
      exact (sensed.trans (endShare_fliesOn (s := (s.senseEndStop endStop).reach f.due) hf
        (by simpa using hp))).trans
        (fliesOn_of_sameBut (promptFlags_changes _ _) (by decide) (by decide))
    · exact s.fliesOn_refl

theorem clearLockout_fliesOn (s : State) : s.fliesOn s.clearLockout := by
  unfold clearLockout
  split
  · exact s.fliesOn_refl
  · exact (fliesOn_of_sameBut (s.onPlant_sequencer_changes _ rfl) (by decide) (by decide)).trans
      (plantTrigger_fliesOn _)

/-! ### Sensing and the plant timer -/

theorem handOver_reckoningWf {s : State} (h : s.ReckoningWf) (old : State) :
    (s.handOver old).ReckoningWf := by
  unfold handOver
  split
  · exact reckoningWf_reckons.promptFlags old (reckoningWf_reckons.recompute old h)
  · refine reckoningWf_reckons.promptFlags old (reckoningWf_of_fliesOn (plantTriggers_changes _ _)
      (by decide) (by decide) (by decide) (plantTriggers_fliesOn _ _) ?_)
    exact reckoningWf_of_sameBut ((s.onPlant_sequencer_changes _ rfl).mono (by decide)) h

theorem contactChanged_reckoningWf {s : State} (h : s.ReckoningWf) (old : State) (c : Contact) :
    (s.contactChanged old c).ReckoningWf := by
  unfold contactChanged
  split
  · exact reckoningWf_reckons.promptFlags old
      (reckoningWf_reckons.share (reckoningWf_reckons.evaluate old h))
  · exact h
  · exact plantTrigger_reckoningWf (andIf_keeps (fun u hu => reckoningWf_of_sameBut
      ((u.onPlant_sequencer_changes _ rfl).mono (by decide)) hu) _ _ h)
  · exact plantTrigger_reckoningWf h

theorem slewStep_reckoningWf {s : State} (h : s.ReckoningWf) : s.slewStep.ReckoningWf := by
  refine reckoningWf_of_sameBut ((tellStatus_changes _ _).mono (by decide))
    (andIf_keeps (fun _ hu => reckoningWf_reckons.share hu) _ _ ?_)
  exact reckoningWf_of_sameBut ((s.onPlant_sequencer_changes _ rfl).mono (by decide)) h

theorem boostStep_reckoningWf {s : State} (h : s.ReckoningWf) : s.boostStep.ReckoningWf :=
  reckoningWf_of_sameBut (s.boostStep_changes.mono (by decide)) h

/-! ### The part as a whole -/

theorem released_reckoningWf (role : Role) (a : Nat) (x y : Level) :
    (State.released role a x y).ReckoningWf :=
  reckoningWf_of_free ⟨fun h => h, fun h => h⟩ rfl rfl (followedOf_nil role).symm

end State

open State in
/-- Every command keeps the reckonings orderly, from a well-formed table. -/
theorem exec_reckoningWf (c : Instr) (s t : State) (table : s.TableWf) (h : s.ReckoningWf)
    (hexec : exec c s = .next t) : t.ReckoningWf := by
  by_cases spares : sparesReckonings c = true
  · exact reckoningWf_reckons.exec h hexec spares
  have quietly {u v : State} (hu : u.ReckoningWf) (huv : u.sameBut offReckonings v) : v.ReckoningWf :=
    reckoningWf_of_sameBut huv hu
  have heard (named : Frame → Bool) : (s.takeFrame named fun f u => u.handRecord f).ReckoningWf := by
    rcases s.takeFrame_cases named fun f u => u.handRecord f with
      k | ⟨f, rest, -, -, ⟨-, k⟩ | ⟨-, k⟩⟩ <;> rw [k]
    · exact h
    · exact h
    · exact handRecord_reckoningWf (s := s.taken rest) table h f
  cases c <;> try exact absurd rfl spares
  all_goals obtain rfl := Host.Outcome.next.inj hexec
  case reset role a x y => exact released_reckoningWf role a.toNat x y
  case resetAsserted =>
    exact released_reckoningWf s.role s.address s.sensing.contact1.level s.sensing.contact2.level
  case startEnd image =>
    refine takeExpiry_keeps h fun d _ => andIf_keeps_of (P := ReckoningWf) h fun _ => ?_
    refine reckoningWf_reckons.enter _ (quietly (u := (s.reach d).configured (load s.role image)) h ?_)
    exact (((takeProduct_changes _).mono (by decide)).trans ((startTimers_changes _).mono
      (by decide))).trans ((compareContacts_changes _).mono (by decide))
  case agingExpiry =>
    refine takeExpiry_keeps h fun d _ => ?_
    dsimp only
    split_ifs with ho
    · obtain ⟨share, plant, -, -, followed⟩ := h
      exact ⟨share, plant, fun _ => ho, fun _ => ho, followed⟩
    · exact applyAging_reckoningWf (s := (s.reach d).onMember fun m =>
        { m with aging := (s.reach d).timer Config.agingMs }) h (Bool.eq_false_iff.mpr ho)
  case announce | plantStatus => exact heard _
  case tableWriteApplied =>
    rcases s.take_cases applyWaitingWrite with ⟨-, k⟩ | ⟨-, k⟩ <;> rw [k]
    · exact h
    · exact applyWaitingWrite_reckoningWf table h
  case snapshotEnd unit =>
    exact take_keeps (P := ReckoningWf) (fun u hu => endSnapshot_reckoningWf hu unit) s h
  case restartCarriedOut =>
    exact take_keeps (P := ReckoningWf) (fun u hu => carryOutRestart_reckoningWf hu) s h
  case clear endStop =>
    refine reckoningWf_reckons.serve (fun f u hu => reckoningWf_reckons.placeReply _ _ _ _
      (reckoningWf_reckons.promptFlags _ ?_)) h
    refine reckoningWf_of_fliesOn (clearLockout_changes _) (by decide) (by decide) (by decide)
      (clearLockout_fliesOn _) (quietly hu ?_)
    exact (sameBut_of_drives (drives_trans (u.onDrive_frame _) (clearDrive_frame _))).mono (by decide)
  case sampleTimerExpiry a b =>
    refine takeExpiry_keeps h fun d _ => handOver_reckoningWf ?_ _
    exact h
  case debounceExpiry k =>
    exact takeExpiry_keeps h fun d _ => contactChanged_reckoningWf
      (quietly (u := s.reach d) h ((onContact_changes _ k _).mono (by decide))) _ k
  case shareReckoningEnd endStop =>
    exact take_keeps (P := ReckoningWf) (fun u hu => shareEnds_reckoningWf hu endStop) s h
  case plantTimerExpiry =>
    refine takeExpiry_keeps h fun d _ => plantTrigger_reckoningWf
      (boostStep_reckoningWf (slewStep_reckoningWf (s := State.onPlant _ _) h))
  case plantReckoningEnd =>
    exact take_keeps (P := ReckoningWf) (fun u hu => plantEnds_reckoningWf hu) s h
  case minOnExpiry | dwellExpiry | changeoverPauseExpiry | frostTimerExpiry | tripTimerExpiry
      | defrostOverlongExpiry =>
    exact takeExpiry_keeps h fun d _ => plantTrigger_reckoningWf (s := State.onPlant _ _) h
  case minOffExpiry =>
    exact andIf_keeps_of h fun _ => takeExpiry_keeps h fun d _ =>
      plantTrigger_reckoningWf (s := State.onPlant _ _) h

theorem State.tick_eq (s : State) : s.tick = s ∨ s.tick = { s with now := s.now + 1 } := by
  unfold State.tick
  split
  · exact .inl rfl
  · exact .inr rfl

/-- Settles O59: the flights move on with their marks, an occupied table stays so until a snapshot's end
works off what waits on it, and what leaves the FRESH PLANT entries leaves the followed plant. -/
theorem everyStepKeepsTheReckoningsOrderly : Obligations.EveryStepKeepsTheReckoningsOrderly := by
  intro s t table h hstep
  rcases step_cases hstep with ⟨-, rfl⟩ | ⟨c, rest, -, hexec⟩
  · rcases s.tick_eq with ht | ht <;> rw [ht] <;> exact h
  · exact exec_reckoningWf c { s with pending := rest } t table h hexec

end Sys2Proof.Machine
end

section
/-! PROOF. What bears on the transmit queue, the wire and the station state is kept by every command, as
far as each operation of the line controller keeps it. -/

namespace Sys2Proof.Machine

namespace State

/-- The items that bear neither on the transmit queue nor on the station state. -/
abbrev offWire : List Item :=
  [.clock, .roster, .waits, .memberLatches, .restarts, .channels, .contacts, .setpoints, .demand,
    .announcer, .shareFlight, .shareResult, .drive, .plantFlight, .sequencer, .unplaced, .current,
    .latches, .counters, .responder]

/-- A property of the line controller and the station state: no item off the wire bears on it, and each
operation of the line controller and a change of the station state keep it. -/
structure Wires (P : State → Prop) : Prop where
  quiet : ∀ {s t : State}, s.sameBut offWire t → P s → P t
  taken : ∀ {s : State} {f : Frame} {rest : List Frame}, s.line.pair = f :: rest → P s →
    P (s.taken rest)
  enter : ∀ {s : State} {x : Station}, s.member.station.takesOrders = true →
    x.takesOrders = true → P s → P (s.enterStation x)
  periodic : ∀ {s : State} (k : TxKind) (dest : Nat), k.periodic = true → P s →
    P (s.placePeriodic k dest)
  reply : ∀ {s : State} (k : TxKind) (dest : Nat) (body : List Byte) (use : ResultUse),
    k.periodic = false → P s → P (s.placeReply k dest body use).1
  scratch : ∀ {s : State} (a : List Byte) (b : Bool), P s →
    P (s.onLine fun l => { l with assembly := a, space := b })
  heard : ∀ {s : State} (f : Frame), P s → P (s.receive f)
  idles : ∀ {s : State}, P s → P s.lineIdle
  starts : ∀ {s : State}, P s →
    P (s.onLine fun l => { l with idle := false, wait := none, space := false })
  echoes : ∀ {s : State} {e : TxEntry}, s.line.sending = some e →
    s.line.echoed + 1 < (s.frameOf e).bytes.length → P s →
    P (s.onLine fun l => { l with echoed := l.echoed + 1 })
  completes : ∀ {s : State} {e : TxEntry}, s.line.sending = some e → P s → P (s.completeSending e)
  loses : ∀ {s : State} {e : TxEntry}, s.line.sending = some e → P s → P (s.loseAttempt e)
  attempts : ∀ {s : State} {e : TxEntry} {n : Nat}, s.mayAttempt n = some e → P s →
    P (s.startAttempt e)
  sticks : ∀ {s : State}, P s → P (s.onLine fun l =>
    { l with
      stuck := true, space := true, idle := false, wait := none
      latches := { l.latches with stuck := true } })
  returns : ∀ {s : State}, P s →
    P (s.onLine fun l => { l with stuck := false, space := false, idle := true }).beginWait

namespace Wires
variable {P : State → Prop} {s : State} (w : Wires P)
include w

/-! ### Announcements -/

theorem placeAnnouncement (h : P s) : P s.placeAnnouncement := by
  unfold State.placeAnnouncement
  split_ifs
  · exact w.quiet ((s.onAnnouncer_changes _).mono (by decide)) h
  · exact w.quiet ((onAnnouncer_changes _ _).mono (by decide))
      (w.periodic _ 0 (by cases s.role <;> rfl) h)

theorem promptCause (h : P s) : P s.promptCause := by
  unfold State.promptCause
  split_ifs
  · exact h
  · exact h
  · exact w.quiet ((s.onAnnouncer_changes _).mono (by decide)) h
  · exact w.quiet ((s.onAnnouncer_changes _).mono (by decide)) h
  · exact w.placeAnnouncement h

theorem promptFlags (old : State) (h : P s) : P (s.promptFlags old) := by
  unfold State.promptFlags
  split <;> exact andIf_keeps (fun _ hu => w.promptCause hu) _ _ h

theorem periodExpired (h : P s) : P s.periodExpired :=
  w.quiet ((onAnnouncer_changes _ _).mono (by decide)) (w.placeAnnouncement h)

theorem spacingExpired (h : P s) : P s.spacingExpired :=
  andIf_keeps (fun _ hu => w.placeAnnouncement hu) _ _
    (w.quiet ((s.onAnnouncer_changes _).mono (by decide)) h)

/-! ### The station state and the table -/

theorem duplicateEvidence (h : P s) : P s.duplicateEvidence := by
  unfold State.duplicateEvidence
  split <;> rename_i hs
  · exact w.enter (by rw [hs]; rfl) rfl h
  · exact w.enter (by rw [hs]; rfl) rfl h
  · exact w.enter (by rw [hs]; rfl) rfl h
  all_goals exact h

theorem judgeSource (f : Frame) (h : P s) : P (s.judgeSource f) :=
  andIf_keeps_of h fun _ => w.duplicateEvidence h

theorem tableBecomes (table : List Entry) (changed : Bool) (h : P s) :
    P (s.tableBecomes table changed) :=
  w.promptFlags s (w.quiet (((s.onMember_roster_changes _ _).mono (by decide)).trans
    ((sameBut_andIf membershipChange_changes _ _).mono (by decide))) h)

theorem tableRecord (a : Nat) (r : Record) (h : P s) : P (s.tableRecord a r) := by
  unfold State.tableRecord
  split
  · exact w.quiet (((sameBut_andIf shareTrigger_changes _ _).mono (by decide)).trans
      ((sameBut_andIf plantTrigger_changes _ _).mono (by decide))) (w.tableBecomes _ _ h)
  · split_ifs
    · exact w.tableBecomes _ _ h
    · split
      · exact w.tableBecomes _ _ h
      · exact w.quiet (fun i => by cases i <;> simp [Item.same]) h

theorem handRecord (f : Frame) (h : P s) : P (s.handRecord f) := by
  unfold State.handRecord
  split_ifs
  · exact h
  · exact w.duplicateEvidence h
  · exact w.quiet ((s.onLine_current_changes _).mono (by decide)) h
  · exact w.tableRecord _ _ h

theorem applyWaitingWrite (h : P s) : P s.applyWaitingWrite := by
  unfold State.applyWaitingWrite
  split
  · exact h
  · split_ifs
    · exact h
    · exact w.tableRecord _ _ (w.quiet ((s.onLine_current_changes _).mono (by decide)) h)

theorem applyAging (h : P s) : P s.applyAging := w.tableBecomes _ _ h

theorem occupationEnds (h : P s) : P s.occupationEnds := by
  unfold State.occupationEnds
  split_ifs
  · exact h
  · extract_lets s1 s2
    have aged : P s2 := iterate_keeps (fun _ hu => w.applyAging hu) _
      (w.quiet ((s.onMember_waits_changes _ rfl).mono (by decide)) h)
    split
    · exact aged
    · split_ifs
      · exact w.quiet ((onMember_followed_changes _ _).mono (by decide)) aged
      · exact w.tableBecomes _ _ (w.quiet ((onMember_waits_changes _ _ rfl).mono (by decide)) aged)

theorem emptyTable (h : P s) : P s.emptyTable := by
  unfold State.emptyTable
  extract_lets followed
  split_ifs
  · exact w.quiet (fun i => by cases i <;> simp [Item.same]) h
  · exact w.quiet ((onMember_followed_changes _ _).mono (by decide)) (w.tableBecomes _ _ h)

theorem carryOutRestart (h : P s) : P s.carryOutRestart := by
  unfold State.carryOutRestart
  split
  · exact h
  · split_ifs with ho
    · have emptied := (onMember_restarts_changes s ‹Nat›).mono (b := .restarts :: .waits :: tableItems)
        (by decide) |>.trans ((emptyTable_changes _).mono (by decide))
      have station := emptied.of_not_mem (i := .station) (by decide)
      exact w.enter (congrArg _ station |>.trans ho) rfl (w.emptyTable
        (w.quiet ((s.onMember_restarts_changes _).mono (by decide)) h))
    · exact h

theorem endSnapshot (unit : ReckoningUnit) (h : P s) : P (s.endSnapshot unit) := by
  unfold State.endSnapshot
  split
  · split
    · exact w.occupationEnds (w.quiet ((s.sameBut_reach _ (by decide)).trans
        ((onShare_changes _ _ (by simp)).mono (by decide))) h)
    · exact h
  · split
    · split_ifs
      · exact w.occupationEnds (w.quiet ((s.sameBut_reach _ (by decide)).trans
          ((onPlant_flight_changes _ _ s.plant.mark).mono (by decide))) h)
      · exact h
    · exact h

/-! ### The zone line -/

theorem judgeAssembly (bs : List Byte) (h : P s) : P (s.judgeAssembly bs) := by
  have assembled (a : List Byte) : P (s.onLine fun l => { l with assembly := a }) :=
    w.scratch a s.line.space h
  unfold State.judgeAssembly
  split_ifs
  · exact w.quiet ((onLatches_changes _ _).mono (by decide)) (assembled [])
  · exact w.heard _ (assembled [])
  · exact w.quiet (((onLatches_changes _ _).mono (by decide)).trans
      ((onCounters_changes _ _).mono (by decide))) (assembled [])
  · exact assembled bs

theorem assemble (b : LineByte) (h : P s) : P (s.assemble b) := by
  unfold State.assemble
  split_ifs
  · exact w.scratch _ s.line.space h
  · exact h
  · exact w.judgeAssembly _ h

theorem truncate (h : P s) : P s.truncate := by
  unfold State.truncate
  split_ifs
  · exact h
  · exact w.quiet ((onLatches_changes _ _).mono (by decide)) (w.scratch [] s.line.space h)

theorem byteBegins (n : Nat) (h : P s) : P (s.byteBegins n) :=
  w.starts (andIf_keeps (fun _ hu => w.truncate hu) _ _ (andIf_keeps (fun _ hu => w.idles hu) _ _ h))

theorem echoMatches {e : TxEntry} (b : LineByte) (he : s.line.sending = some e) (h : P s) :
    P (s.echoMatches e b) := by
  unfold State.echoMatches
  split_ifs with hlast
  · exact w.completes he h
  · exact w.assemble b (w.echoes he (by omega) h)

theorem hearByte (b : LineByte) (h : P s) : P (s.hearByte b) := by
  have begun := w.byteBegins b.idleBits h
  unfold State.hearByte
  dsimp only
  split
  · exact w.assemble b begun
  · rename_i e he
    split_ifs
    · exact w.echoMatches b he begun
    · exact w.assemble b (w.loses he begun)

theorem hearBytes (bytes : List LineByte) (h : P s) : P (bytes.foldl State.hearByte s) := by
  induction bytes generalizing s with
  | nil => exact h
  | cons b rest ih => exact ih (w.hearByte b h)

theorem hearRun (bytes : List LineByte) (h : P s) : P (s.hearRun bytes) := w.idles (w.hearBytes bytes h)

theorem badByte (n : Nat) (h : P s) : P (s.badByte n) := by
  unfold State.badByte
  extract_lets s1
  have heard : P s1 := w.scratch [] (s.byteBegins n).line.space
    (w.quiet (((onLatches_changes _ _).mono (by decide)).trans ((onCounters_changes _ _).mono
      (by decide))) (w.byteBegins n h))
  split
  · exact w.loses ‹_› heard
  · exact heard

theorem framingError (n : Nat) (lineHeld : Bool) (h : P s) : P (s.framingError n lineHeld) := by
  unfold State.framingError
  split_ifs
  · exact w.scratch (s.badByte n).line.assembly true (w.badByte n h)
  · exact w.idles (w.badByte n h)

theorem echoDiffers (e : TxEntry) (matched : Nat) (wrong : Option Byte) (goesOn : Bool) (h : P s) :
    P (s.echoDiffers e matched wrong goesOn) := by
  unfold State.echoDiffers
  split
  · exact h
  · split_ifs
    · exact h
    · refine andIf_keeps (fun u hu => w.idles hu) _ _ ?_
      split
      · exact w.badByte 0 h
      · exact w.hearBytes _ h

/-! ### Sensing, demand, setpoints, the plant sequencer -/

theorem evaluate (old : State) (h : P s) : P (s.evaluate old) :=
  andIf_keeps (fun _ hu => w.promptCause hu) _ _ (w.quiet (((s.onDemand_changes _ (by simp)).mono
    (by decide)).trans ((sameBut_andIf shareTrigger_changes _ _).mono (by decide))) h)

theorem recompute (old : State) (h : P s) : P (s.recompute old) :=
  w.evaluate old (w.quiet (((s.onDemand_changes _ (by simp)).mono (by decide)).trans
    ((onDemand_changes _ _ (by simp)).mono (by decide))) h)

theorem handOver (old : State) (h : P s) : P (s.handOver old) := by
  unfold State.handOver
  split
  · exact w.promptFlags old (w.recompute old h)
  · exact w.promptFlags old (w.quiet (((s.onPlant_sequencer_changes _ rfl).mono (by decide)).trans
      ((plantTriggers_changes _ _).mono (by decide))) h)

theorem contactChanged (old : State) (c : Contact) (h : P s) : P (s.contactChanged old c) := by
  unfold State.contactChanged
  split
  · exact w.promptFlags old (w.quiet ((shareTrigger_changes _).mono (by decide)) (w.evaluate old h))
  · exact h
  · exact w.quiet (((sameBut_andIf (fun u => u.onPlant_sequencer_changes _ rfl) _ _).mono
      (by decide)).trans ((plantTrigger_changes _).mono (by decide))) h
  · exact w.quiet (s.plantTrigger_changes.mono (by decide)) h

theorem applySetpoint (f : Frame) (h : P s) : P (s.applySetpoint f) := by
  unfold State.applySetpoint
  split
  · extract_lets x kept s1 s2
    have stored : P s1 := w.quiet (fun i => by cases i <;> simp [Item.same, s1]) h
    have worked : P s2 := w.recompute s stored
    split_ifs
    · exact w.reply _ _ _ _ rfl worked
    · exact worked
  · split_ifs
    · exact w.reply _ _ _ _ rfl h
    · exact h

theorem tellShare (old : Plant) (h : P s) : P (s.tellShare old) :=
  w.quiet ((s.tellShare_changes old).mono (by decide)) h

theorem tellStatus (old : Plant) (h : P s) : P (s.tellStatus old) :=
  andIf_keeps (fun _ hu => w.promptCause hu) _ _ h

theorem slewStep (h : P s) : P s.slewStep :=
  w.tellStatus _ (w.tellShare _ (w.quiet ((s.onPlant_sequencer_changes _ rfl).mono (by decide)) h))

theorem endPlant (f : PlantFlight) (h : P s) : P (s.endPlant f) := by
  unfold State.endPlant
  split_ifs
  · exact w.quiet (((s.onPlant_sequencer_changes _ rfl).mono (by decide)).trans
      ((closePlant_changes _ _).mono (by decide))) h
  · extract_lets new s1
    have worked : s.sameBut [.sequencer] { s with plant := new } :=
      s.onPlant_sequencer_changes (fun _ => new) rfl
    exact w.quiet ((closePlant_changes _ _).mono (by decide)) (w.tellStatus _ (w.tellShare _
      (w.quiet (worked.mono (by decide)) h)))

theorem plantEnds (h : P s) : P s.plantEnds := by
  unfold State.plantEnds
  split
  · exact h
  · split_ifs
    · exact w.endPlant _ (w.quiet (s.sameBut_reach _ (by decide)) h)
    · exact h

theorem shareEnds (endStop : Bool) (h : P s) : P (s.shareEnds endStop) := by
  unfold State.shareEnds
  split
  · exact h
  · split_ifs
    · exact w.promptFlags s (w.quiet ((((s.onDrive_changes _).mono (by decide)).trans
        (sameBut_reach _ _ (by decide))).trans ((endShare_changes _ _).mono (by decide))) h)
    · exact h

theorem promptedDrive {t : State} (old : State) (ht : s.drives t) (h : P s) : P (t.promptFlags old) :=
  w.promptFlags old (w.quiet ((sameBut_of_drives ht).mono (by decide)) h)

theorem moves (stall endStop : Bool) (h : P s) : P (s.moves stall endStop) := by
  unfold State.moves
  split
  · split_ifs
    · exact h
    · exact w.promptedDrive s (drives_trans (s.onDrive_frame _) (moveStep_frame _ _ _)) h
  · exact h

/-! ### The frame handler and the service responder -/

theorem takeFrame {named : Frame → Bool} {act : Frame → State → State}
    (hact : ∀ (f : Frame) (u : State), P u → P (act f u)) (h : P s) : P (s.takeFrame named act) := by
  rcases s.takeFrame_cases named act with k | ⟨f, rest, front, -, ⟨-, k⟩ | ⟨-, k⟩⟩ <;> rw [k]
  · exact h
  · exact w.taken front.front h
  · exact hact f _ (w.taken front.front h)

theorem answer (f : Frame) (code : ResultCode) (figures : List Byte) (use : ResultUse) (h : P s) :
    P (s.answer f code figures use).1 := w.reply _ _ _ _ rfl h

theorem serve {q : Request} {carry : Frame → State → State}
    (hcarry : ∀ (f : Frame) (u : State), P u → P (carry f u)) (h : P s) : P (s.serve q carry) := by
  refine w.takeFrame (fun f u hu => w.judgeSource f ?_) h
  unfold State.respond
  split
  · exact hu
  · split
    · exact w.answer _ _ _ _ hu
    · exact hcarry f u hu

theorem heardRollCall (f : Frame) (h : P s) : P (s.heardRollCall f) := by
  unfold State.heardRollCall
  split_ifs
  · exact w.reply _ _ _ _ rfl h
  · exact w.duplicateEvidence h
  · exact h

theorem placeDump (d : Dump) (last aborted : Bool) (figures : List Byte) (h : P s) :
    P (s.placeDump d last aborted figures) := by
  unfold State.placeDump
  extract_lets s1 p
  have placed : P p.1 := w.reply _ _ _ _ rfl
    (w.quiet ((s.onResponder_changes _).mono (by decide)) h)
  split_ifs
  · exact placed
  · exact w.quiet ((endDump_changes _).mono (by decide)) placed

theorem buildDump (d : Dump) (h : P s) : P (s.buildDump d) := by
  unfold State.buildDump
  split_ifs
  · exact w.placeDump _ _ _ _ h
  · split <;> exact w.placeDump _ _ _ _ h

theorem continueDump (h : P s) : P s.continueDump := by
  unfold State.continueDump
  split
  · exact h
  · split_ifs
    · exact w.buildDump _ h
    · exact h

theorem restartWaits (done dumpEnd : Bool) (h : P s) : P (s.restartWaits done dumpEnd) :=
  w.quiet ((s.restartWaits_changes done dumpEnd).mono (by decide)) h

theorem carryRestart (f : Frame) (h : P s) : P (s.carryRestart f) := by
  unfold State.carryRestart
  split
  · exact w.restartWaits _ _ (w.answer _ _ _ _ h)
  · extract_lets s1 p
    have marked : P s1 := w.quiet ((s.onResponder_changes _).mono (by decide)) h
    split_ifs
    · exact w.restartWaits _ _ marked
    · exact w.restartWaits _ _ (w.answer _ _ _ _ marked)

theorem reportStatus (f : Frame) (h : P s) : P (s.reportStatus f) :=
  andIf_keeps (fun u hu => w.quiet (u.clearLatches_changes.mono (by decide)) hu) _ _
    (w.answer _ _ _ _ h)

theorem carryClear (f : Frame) (endStop : Bool) (h : P s) : P (s.carryClear f endStop) := by
  refine w.answer _ _ _ _ (w.promptFlags s (w.quiet ((clearLockout_changes _).mono (by decide))
    (w.quiet ?_ h)))
  exact (sameBut_of_drives (drives_trans (s.onDrive_frame _) (clearDrive_frame _))).mono (by decide)

theorem carryRehome (f : Frame) (endStop : Bool) (h : P s) : P (s.carryRehome f endStop) :=
  w.answer _ _ _ _ (w.promptedDrive s (drives_trans (s.onDrive_frame _) (homeRequest_frame _)) h)

theorem carryHold (f : Frame) (endStop : Bool) (h : P s) : P (s.carryHold f endStop) := by
  unfold State.carryHold
  extract_lets t
  split_ifs
  · exact w.answer _ _ _ _ (w.promptedDrive s (drives_trans (s.onDrive_frame _)
      (startHold_frame _ _)) h)
  · exact w.answer _ _ _ _ h

end Wires
end State

/-- The commands that start or stop a timer of the station state, or reset the part. -/
def timesStation : Instr → Bool
  | .reset _ _ _ _ | .resetAsserted | .startEnd _ | .joinWindowExpiry | .rollCallWaitExpiry
  | .duplicateHoldExpiry | .agingExpiry | .lineQuietExpiry | .sampleTimerExpiry _ _
  | .plantTimerExpiry => true
  | _ => false

open State in
/-- Every other command keeps the property. -/
theorem State.Wires.exec {P : State → Prop} (w : Wires P) {c : Instr} {s t : State} (h : P s)
    (hexec : exec c s = .next t) (hc : timesStation c = false) : P t := by
  by_cases quiet : ∃ a, touches c = some a ∧ a ⊆ offWire
  · obtain ⟨a, ha, hsub⟩ := quiet
    exact w.quiet ((exec_changes ha hexec).mono hsub) h
  have reached (d : Nat) : P (s.reach d) := w.quiet (s.sameBut_reach d (by decide)) h
  cases c <;> try exact absurd ⟨_, rfl, by decide⟩ quiet
  any_goals exact Bool.noConfusion hc
  all_goals obtain rfl := Host.Outcome.next.inj hexec
  case announce | plantStatus => exact w.takeFrame (fun f u hu => w.handRecord f hu) h
  case rollCall => exact w.takeFrame (fun f u hu => w.heardRollCall f hu) h
  case present | setpointReply | result => exact w.takeFrame (fun f u hu => w.judgeSource f hu) h
  case setpoint => exact w.takeFrame (fun f u hu => w.judgeSource f (w.applySetpoint f hu)) h
  case unknownKindFrame =>
    exact w.takeFrame (fun f u hu => w.quiet ((u.onLatches_changes _).mono (by decide)) hu) h
  case tableWriteApplied => exact take_keeps (fun u hu => w.applyWaitingWrite hu) s h
  case snapshotEnd unit => exact take_keeps (fun u hu => w.endSnapshot unit hu) s h
  case peer | share | plant => exact w.serve (fun f u hu => w.answer _ _ _ _ hu) h
  case status => exact w.serve (fun f u hu => w.reportStatus f hu) h
  case dump => exact w.serve (fun f u hu => w.buildDump _ hu) h
  case clear endStop => exact w.serve (fun f u hu => w.carryClear f endStop hu) h
  case rehome endStop => exact w.serve (fun f u hu => w.carryRehome f endStop hu) h
  case hold endStop => exact w.serve (fun f u hu => w.carryHold f endStop hu) h
  case restart => exact w.serve (fun f u hu => w.carryRestart f hu) h
  case restartCarriedOut => exact take_keeps (fun u hu => w.carryOutRestart hu) s h
  case dumpNextResult => exact take_keeps (fun u hu => w.continueDump hu) s h
  case debounceExpiry k =>
    exact takeExpiry_keeps h fun d _ => w.contactChanged _ k
      (w.quiet ((onContact_changes _ k _).mono (by decide)) (reached d))
  case announcePeriodExpiry | statusPeriodExpiry =>
    exact andIf_keeps_of h fun _ => takeExpiry_keeps h fun d _ => w.periodExpired (reached d)
  case spacingExpiry | statusSpacingExpiry =>
    exact andIf_keeps_of h fun _ => takeExpiry_keeps h fun d _ => w.spacingExpired (reached d)
  case shareReckoningEnd endStop => exact take_keeps (fun u hu => w.shareEnds endStop hu) s h
  case alignmentEnd endStop =>
    exact takeExpiry_keeps h fun d _ => andIf_keeps_of (reached d) fun _ =>
      w.promptedDrive _ (drives_trans (drives_trans (onDrive_frame _ _) (onDrive_frame _ _))
        (enterHoming_frame _ _)) (reached d)
  case homingStep stall endStop =>
    exact takeExpiry_keeps h fun d _ => andIf_keeps_of (reached d) fun _ =>
      w.promptedDrive _ (drives_trans (onDrive_frame _ _) (homingStep_frame _ _)) (reached d)
  case moveStep stall endStop => exact takeExpiry_keeps h fun d _ => w.moves stall endStop (reached d)
  case holdTimerExpiry endStop =>
    exact takeExpiry_keeps h fun d _ => w.promptedDrive _ (drives_trans (onDrive_frame _ _)
      (endHold_frame _)) (reached d)
  case plantReckoningEnd => exact take_keeps (fun u hu => w.plantEnds hu) s h
  case receivedFrame bytes | length bytes =>
    exact take_keeps (fun u hu => andIf_keeps (fun v hv => w.hearRun bytes hv) u _ hu) s h
  case framingError n lineHeld =>
    exact take_keeps (fun u hu => andIf_keeps (fun v hv => w.framingError n lineHeld hv) u _ hu) s h
  case truncated bytes =>
    exact take_keeps (fun u hu => andIf_keeps (fun v hv => w.truncate (w.hearRun bytes hv)) u _ hu) s h
  case attemptStart n =>
    refine take_keeps (fun u hu => ?_) s h
    split
    · exact w.attempts ‹_› hu
    · exact hu
  case transmissionComplete =>
    refine take_keeps (fun u hu => ?_) s h
    split
    · exact w.completes ‹_› hu
    · exact hu
  case lostAttempt matched wrong goesOn =>
    refine take_keeps (fun u hu => ?_) s h
    split
    · exact w.echoDiffers _ _ _ _ hu
    · exact hu
  case stuck => exact take_keeps (fun u hu => andIf_keeps (fun v hv => w.sticks hv) u _ hu) s h
  case stuckEnd => exact take_keeps (fun u hu => andIf_keeps (fun v hv => w.returns hv) u _ hu) s h

end Sys2Proof.Machine
end

section
/-! PROOF. What the operations of the line controller leave in the transmit queue (R165 to R170, R3). -/

namespace Sys2Proof.Machine

/-! ### Changes of the queue -/

theorem updateFirst_of_split {α : Type} {p : α → Bool} (f : α → α) {before after : List α} {a : α}
    (hb : ∀ x ∈ before, p x = false) (ha : p a = true) :
    updateFirst p f (before ++ a :: after) = before ++ f a :: after := by
  induction before with
  | nil => simp [updateFirst, ha]
  | cons x xs ih =>
    have hx : p x = false := hb x (by simp)
    simp [updateFirst, hx, ih fun y hy => hb y (List.mem_cons_of_mem x hy)]

/-- The first element that a predicate holds of, with what stands around it. -/
theorem split_of_find? {α : Type} {p : α → Bool} {xs : List α} {a : α} (h : xs.find? p = some a) :
    ∃ before after, xs = before ++ a :: after ∧ p a = true ∧ ∀ x ∈ before, p x = false := by
  obtain ⟨ha, before, after, hxs, hb⟩ := List.find?_eq_some_iff_append.mp h
  exact ⟨before, after, hxs, ha, fun x hx => by simpa using hb x hx⟩

theorem Line.mem_of_sending {l : Line} {e : TxEntry} (h : l.sending = some e) :
    e ∈ l.queue ∧ e.inFlight = true := ⟨List.mem_of_find?_eq_some h, List.find?_some h⟩

namespace State
variable {s t : State}

/-- What the wire's footprint says field by field. -/
theorem wire_same (h : Item.wire.same s t) :
    t.line.queue = s.line.queue ∧ t.line.idle = s.line.idle ∧ t.line.stuck = s.line.stuck ∧
    t.line.wait = s.line.wait ∧ t.line.sequence = s.line.sequence ∧ t.line.echoed = s.line.echoed ∧
    t.line.assembly = s.line.assembly ∧ t.line.space = s.line.space := by
  unfold Item.same at h
  rw [h]
  simp

theorem queue_of_sameBut {a : List Item} (h : s.sameBut a t) (hw : .wire ∉ a) :
    t.line.queue = s.line.queue := (wire_same (h.of_not_mem hw)).1

/-- The items of the membership unit. -/
abbrev memberItems : List Item :=
  [.station, .stationTimers, .aging, .roster, .waits, .memberLatches, .restarts]

theorem member_of_sameBut {a : List Item} (h : s.sameBut a t) (ha : ∀ i ∈ memberItems, i ∉ a) :
    t.member = s.member := by
  have station : _ = _ := h.of_not_mem (ha .station (by decide))
  obtain ⟨j1, j2, j3, j4⟩ := h.of_not_mem (ha .stationTimers (by decide))
  have aging : _ = _ := h.of_not_mem (ha .aging (by decide))
  obtain ⟨r1, r2⟩ := h.of_not_mem (ha .roster (by decide))
  obtain ⟨w1, w2⟩ := h.of_not_mem (ha .waits (by decide))
  obtain ⟨l1, l2, l3⟩ := h.of_not_mem (ha .memberLatches (by decide))
  have restarts : _ = _ := h.of_not_mem (ha .restarts (by decide))
  cases hm : t.member
  cases hn : s.member
  simp_all

/-- An own frame of a kind asked for: placed behind the others, or the queue stays (R3, R165). -/
theorem placePeriodic_queue (s : State) (k : TxKind) (dest : Nat) :
    (s.placePeriodic k dest).line.queue = s.line.queue ∨
      s.member.station.allows k = true ∧ (∀ e ∈ s.line.queue, e.kind.periodic = false) ∧
        (s.placePeriodic k dest).line.queue = s.line.queue ++
          [{ kind := k, dest, body := none, lost := 0, inFlight := false, use := .plain }] := by
  unfold placePeriodic
  split_ifs with ha hp
  · exact .inl rfl
  · exact .inl rfl
  · exact .inr ⟨by simpa using ha, by simpa using hp, s.placeEntry_queue _⟩

theorem placeReply_queue (s : State) (k : TxKind) (dest : Nat) (body : List Byte) (use : ResultUse) :
    (s.placeReply k dest body use).1.line.queue = s.line.queue ∨
      s.member.station.allows k = true ∧ s.line.replies < 3 ∧
        (s.placeReply k dest body use).1.line.queue = s.line.queue ++
          [{ kind := k, dest, body := some body, lost := 0, inFlight := false, use }] := by
  unfold placeReply
  split_ifs with ha hr
  · exact .inl rfl
  · exact .inl rfl
  · exact .inr ⟨by simpa using ha, by simpa [Line.replies] using hr, s.placeEntry_queue _⟩

/-- The frames that the station state does not allow are gone (R3). -/
theorem purgeQueue_queue (s : State) :
    s.purgeQueue.line.queue = s.line.queue.filter fun e => s.member.station.allows e.kind := by
  unfold purgeQueue
  extract_lets gone stopped s1 s2
  have told : s2.sameBut [.responder, .restarts] (gone.foldl (fun t e => t.resultLeft e.use .removed) s2) :=
    sameBut_foldl (fun u e => u.resultLeft_changes _ _) _ _
  rw [queue_of_sameBut told (by decide)]
  have removed : s1.line.queue = s.line.queue.filter fun e => s.member.station.allows e.kind := rfl
  rw [← removed]
  unfold s2
  split_ifs
  · rfl
  · exact s1.beginWait_queue
  · rfl

theorem moveTo_queue (s : State) (x : Station) :
    (s.moveTo x).line.queue = s.line.queue.filter fun e => x.allows e.kind := purgeQueue_queue _

theorem lineIdle_queue (s : State) : s.lineIdle.line.queue = s.line.queue := by
  unfold lineIdle
  split_ifs
  · rfl
  · exact beginWait_queue _

theorem completeSending_queue (s : State) (e : TxEntry) :
    (s.completeSending e).line.queue = s.line.queue.filter fun x => !x.inFlight := by
  unfold completeSending
  extract_lets s1
  rw [beginWait_queue]
  exact queue_of_sameBut (s1.sentTo_changes e) (by decide)

theorem truncate_queue (s : State) : s.truncate.line.queue = s.line.queue := by
  unfold truncate
  split_ifs <;> rfl

theorem startAttempt_queue (s : State) (e : TxEntry) : (s.startAttempt e).line.queue =
    updateFirst (fun x => x.kind.urgency == e.kind.urgency) (fun x =>
      { x with
        inFlight := true
        body := if e.kind.periodic then some (s.periodicBody e.kind) else e.body })
      s.line.queue := by
  unfold startAttempt
  extract_lets s1 body s2
  rw [queue_of_sameBut (sameBut_andIf (fun u => u.onAnnouncer_changes _) s2 _) (by decide)]
  show updateFirst _ _ s1.line.queue = _
  rw [s.truncate_queue]

/-- Reception in the membership unit: the line-quiet timer starts again where it runs (R22). -/
theorem receive_member (s : State) (f : Frame) : (s.receive f).member =
    { s.member with lineQuiet :=
        if s.member.lineQuiet.isRunning then s.timer Config.lineQuietMs else s.member.lineQuiet } := by
  unfold receive
  extract_lets s1
  have counted : s1.member = { s.member with lineQuiet :=
      if s.member.lineQuiet.isRunning then s.timer Config.lineQuietMs else s.member.lineQuiet } := by
    unfold s1
    cases s.member.lineQuiet.isRunning <;> rfl
  by_cases addressed : (f.dest.toNat == 0 || f.dest.toNat == s.address) = true
  · rw [if_pos addressed]
    by_cases room : s.line.pair.length < 2
    · rw [if_pos room]
      exact counted
    · rw [if_neg room]
      exact counted
  · rw [if_neg addressed]
    exact counted

end State

end Sys2Proof.Machine
end
section
/-! PROOF. Every step keeps the law of the station states (R1 to R10, R17, R22, R25, R105). -/

namespace Sys2Proof.Machine

namespace State
variable {s t : State}

/-- The timers that the end of START starts for good, and START's own. -/
def booted (s : State) (started : Bool) : Prop :=
  s.startTimer.isRunning = !started ∧ s.member.aging.isRunning = started ∧
  s.sensing.sample.isRunning = started ∧ s.plant.timer.isRunning = (s.role == .plant && started)

/-- The timers of the station state x. -/
def timesAs (m : Membership) (x : Station) : Prop :=
  m.joinWindow.isRunning = (x == .listen) ∧ (m.rollCallWait.isRunning = true → x = .claim) ∧
  m.duplicateHold.isRunning = (x == .duplicate) ∧ m.lineQuiet.isRunning = (x == .online)

theorem stationWf_iff (s : State) : s.StationWf ↔
    (∀ e ∈ s.line.queue, s.member.station.allows e.kind = true) ∧ timesAs s.member s.member.station ∧
      s.booted (s.member.station != .start) := by
  simp only [StationWf, timesAs, booted, bne, Bool.not_not]
  tauto

theorem booted_of_sameBut {a : List Item} {b : Bool} (h : s.sameBut a t) (hf : .fixed ∉ a)
    (ha : .aging ∉ a) (hs : .sample ∉ a) (hp : .plantTimer ∉ a) (hb : s.booted b) : t.booted b := by
  obtain ⟨-, role, -, -, -, -, start, -⟩ := h.of_not_mem hf
  have aging : _ = _ := h.of_not_mem ha
  have sample : _ = _ := h.of_not_mem hs
  have plant : _ = _ := h.of_not_mem hp
  unfold booted
  rwa [role, start, aging, sample, plant]

/-- Off the station state and its timers the law asks for the queue alone. -/
theorem stationWf_of_queue (h : s.sameBut (.wire :: .pair :: offWire) t)
    (hq : ∀ e ∈ t.line.queue, s.member.station.allows e.kind = true) (hs : s.StationWf) :
    t.StationWf := by
  obtain ⟨-, times, boot⟩ := (stationWf_iff s).mp hs
  have station : t.member.station = s.member.station := h.of_not_mem (i := .station) (by decide)
  obtain ⟨join, wait, hold, quiet⟩ := h.of_not_mem (i := .stationTimers) (by decide)
  refine (stationWf_iff t).mpr ⟨by rwa [station], ?_, ?_⟩
  · unfold timesAs
    rwa [station, join, wait, hold, quiet]
  · rw [station]
    exact booted_of_sameBut h (by decide) (by decide) (by decide) (by decide) boot

theorem stationWf_of_queue_eq (h : s.sameBut (.wire :: .pair :: offWire) t)
    (hq : t.line.queue = s.line.queue) (hs : s.StationWf) : t.StationWf :=
  stationWf_of_queue h (fun e he => hs.1 e (hq ▸ he)) hs

theorem placePeriodic_stationWf (k : TxKind) (dest : Nat) (h : s.StationWf) :
    (s.placePeriodic k dest).StationWf := by
  refine stationWf_of_queue ((s.placePeriodic_changes k dest).mono (by decide)) (fun e he => ?_) h
  rcases s.placePeriodic_queue k dest with hq | ⟨allowed, -, hq⟩ <;> rw [hq] at he
  · exact h.1 e he
  · rcases List.mem_append.mp he with he | he
    · exact h.1 e he
    · rw [List.mem_singleton.mp he]
      exact allowed

theorem placeReply_stationWf (k : TxKind) (dest : Nat) (body : List Byte) (use : ResultUse)
    (h : s.StationWf) : (s.placeReply k dest body use).1.StationWf := by
  refine stationWf_of_queue ((s.placeReply_changes k dest body use).mono (by decide)) (fun e he => ?_) h
  rcases s.placeReply_queue k dest body use with hq | ⟨allowed, -, hq⟩ <;> rw [hq] at he
  · exact h.1 e he
  · rcases List.mem_append.mp he with he | he
    · exact h.1 e he
    · rw [List.mem_singleton.mp he]
      exact allowed

/-- The first announcement is queued in ONLINE, or nothing is. -/
theorem placeAnnouncement_stationWf (h : s.StationWf) : s.placeAnnouncement.StationWf := by
  unfold placeAnnouncement
  split_ifs
  · exact stationWf_of_queue_eq ((s.onAnnouncer_changes _).mono (by decide))
      (queue_of_sameBut (s.onAnnouncer_changes _) (by decide)) h
  · have placed := placePeriodic_stationWf (ownKind s.role) 0 h
    exact stationWf_of_queue_eq ((onAnnouncer_changes _ _).mono (by decide))
      (queue_of_sameBut (onAnnouncer_changes _ _) (by decide)) placed

/-- The station state x stands reached, with every timer of a station state stopped and nothing queued
that x forbids. -/
structure arrived (v : State) (x : Station) : Prop where
  station : v.member.station = x
  stopped : v.member.joinWindow = .stopped ∧ v.member.rollCallWait = .stopped ∧
    v.member.duplicateHold = .stopped ∧ v.member.lineQuiet.isRunning = false
  allowed : ∀ e ∈ v.line.queue, x.allows e.kind = true
  boot : v.booted true

/-- A member whose timers are those of x makes the arrived station lawful. -/
theorem arrived.stationWf_onMember {v : State} {x : Station} (h : v.arrived x) (hx : x ≠ .start)
    (f : Membership → Membership) (hs : (f v.member).station = v.member.station)
    (ha : (f v.member).aging = v.member.aging) (times : timesAs (f v.member) x) :
    (v.onMember f).StationWf := by
  refine (stationWf_iff _).mpr ⟨?_, ?_, ?_⟩
  · simpa [hs, h.station] using h.allowed
  · simpa [hs, h.station] using times
  · obtain ⟨start, aging, sample, plant⟩ := h.boot
    have started : ((v.onMember f).member.station != .start) = true := by simp [hs, h.station, hx]
    rw [started]
    exact ⟨start, (congrArg _ ha).trans aging, sample, plant⟩

/-- What entering begins is what the station state owns (R4, R5, R7, R10). -/
theorem arrived.entered_stationWf {v : State} {x : Station} (h : v.arrived x) (hx : x ≠ .start) :
    v.entered.StationWf := by
  obtain ⟨join, wait, hold, quiet⟩ := h.stopped
  have still (hn : x ≠ .listen ∧ x ≠ .duplicate ∧ x ≠ .online) : v.StationWf :=
    h.stationWf_onMember hx id rfl rfl ⟨by simp [join, hn], by simp [wait], by simp [hold, hn],
      by simp [quiet, hn]⟩
  unfold entered
  split <;> rename_i hs <;> rw [h.station] at hs <;> subst hs
  · exact absurd rfl hx
  · exact still (by decide)
  · exact h.stationWf_onMember hx _ rfl rfl ⟨rfl, by simp [wait], by simp [hold], by simp [quiet]⟩
  · exact placePeriodic_stationWf _ _ (still (by decide))
  · exact h.stationWf_onMember hx _ rfl rfl ⟨by simp [join], by simp [wait], rfl, by simp [quiet]⟩
  · have began := h.stationWf_onMember hx (fun m => { m with lineQuiet := v.timer Config.lineQuietMs })
      rfl rfl ⟨by simp [join], by simp [wait], by simp [hold], rfl⟩
    have told := ((shareTrigger_changes (v.onMember fun m =>
      { m with lineQuiet := v.timer Config.lineQuietMs })).mono (b := [.shareFlight, .plantFlight])
        (by decide)).trans ((plantTrigger_changes _).mono (by decide))
    exact placeAnnouncement_stationWf (stationWf_of_queue_eq (told.mono (by decide))
      (queue_of_sameBut told (by decide)) began)

/-- Leaving ONLINE stops the line-quiet timer and changes nothing else of the membership unit (R9). -/
theorem leftOnline_member (s : State) :
    s.leftOnline.member = { s.member with lineQuiet := .stopped } := by
  unfold leftOnline
  extract_lets s1 s2
  have forced : s1.sameBut [.sequencer, .plantFlight, .shareFlight] s2 := by
    unfold s2
    split
    · exact s1.sameBut_refl _
    · exact ((s1.onPlant_flight_changes _ s1.plant.mark).mono (by decide)).trans
        ((forcePlantIdle_changes _).mono (by decide))
  have told := ((forced.mono (b := [.sequencer, .plantFlight, .shareFlight]) (by decide)).trans
    ((shareTrigger_changes _).mono (by decide))).trans ((plantTrigger_changes _).mono (by decide))
  rw [member_of_sameBut told (by decide)]
  exact member_of_sameBut (onAnnouncer_changes _ _) (by decide)

/-- Any state but START is entered lawfully from any other: the timers of the state left are stopped,
and what the new one does not allow leaves the queue. -/
theorem enterStation_stationWf {x : Station} (hx : x ≠ .start) (boot : s.booted true)
    (quiet : s.member.lineQuiet.isRunning = (s.member.station == .online)) :
    (s.enterStation x).StationWf := by
  obtain ⟨station, join, wait, hold, lineQuiet⟩ := s.moveTo_station x
  have allowed : ∀ e ∈ (s.moveTo x).line.queue, x.allows e.kind = true := by
    simp [s.moveTo_queue x]
  have boot1 : (s.moveTo x).booted true := booted_of_sameBut (s.moveTo_changes x) (by decide)
    (by decide) (by decide) (by decide) boot
  rw [enterStation_eq]
  refine arrived.entered_stationWf ?_ hx
  cases online : s.member.station == .online
  · rw [andIf_false]
    exact ⟨station, ⟨join, wait, hold, by rw [lineQuiet, quiet, online]⟩, allowed, boot1⟩
  · have left := (s.moveTo x).leftOnline_changes
    refine ⟨?_, ?_, ?_, booted_of_sameBut left (by decide) (by decide) (by decide) (by decide) boot1⟩
    all_goals rw [andIf_true]
    · rw [leftOnline_member]
      exact station
    · rw [leftOnline_member]
      exact ⟨join, wait, hold, rfl⟩
    · rwa [queue_of_sameBut left (by decide)]

end State

end Sys2Proof.Machine
end

section
/-! PROOF. Each operation of the line controller keeps the law of the station states (R3, R5, R6, R22). -/

namespace Sys2Proof.Machine

theorem mem_updateFirst {α : Type} {p : α → Bool} {f : α → α} {xs : List α} {x : α}
    (h : x ∈ updateFirst p f xs) : x ∈ xs ∨ ∃ y ∈ xs, x = f y := by
  induction xs with
  | nil => simp [updateFirst] at h
  | cons y ys ih =>
    unfold updateFirst at h
    split_ifs at h
    · rcases List.mem_cons.mp h with h | h
      · exact .inr ⟨y, by simp, h⟩
      · exact .inl (List.mem_cons_of_mem y h)
    · rcases List.mem_cons.mp h with h | h
      · exact .inl (by simp [h])
      · exact (ih h).imp (List.mem_cons_of_mem y) fun ⟨z, hz, hx⟩ => ⟨z, List.mem_cons_of_mem y hz, hx⟩

theorem Line.head_mem {l : Line} {e : TxEntry} (h : l.head = some e) : e ∈ l.queue := by
  unfold head at h
  split at h
  · exact List.mem_of_find?_eq_some h
  · cases h

namespace State
variable {s t : State}

/-- A line operation that leaves, of each entry it keeps, the kind. -/
theorem stationWf_of_kinds (h : s.sameBut (.wire :: .pair :: offWire) t)
    (hq : ∀ e ∈ t.line.queue, ∃ x ∈ s.line.queue, e.kind = x.kind) (hs : s.StationWf) :
    t.StationWf :=
  stationWf_of_queue h (fun e he => by
    obtain ⟨x, hx, hk⟩ := hq e he
    rw [hk]
    exact hs.1 x hx) hs

/-- An own ROLL CALL is queued in CLAIM alone. -/
theorem StationWf.claim_of_rollCall (h : s.StationWf) {e : TxEntry} (he : e ∈ s.line.queue)
    (hk : e.kind = .rollCall) : s.member.station = .claim := by
  have allowed := h.1 e he
  rw [hk] at allowed
  cases hs : s.member.station <;> rw [hs] at allowed
  all_goals cases allowed

theorem announcementSent_changes (s : State) (body : List Byte) :
    s.sameBut [.announcer] (s.announcementSent body) := s.onAnnouncer_changes _

/-- The roll-call wait runs in CLAIM (R6). -/
theorem sentTo_stationWf {e : TxEntry} (claim : e.kind = .rollCall → s.member.station = .claim)
    (h : s.StationWf) : (s.sentTo e).StationWf := by
  unfold sentTo
  split
  case h_3 hk =>
    obtain ⟨queue, start, join, -, rest⟩ := h
    exact ⟨queue, start, join, fun _ => claim hk, rest⟩
  case h_6 =>
    exact stationWf_of_queue_eq ((s.resultLeft_changes _ _).mono (by decide))
      (queue_of_sameBut (s.resultLeft_changes _ _) (by decide)) h
  case h_4 | h_5 => exact h
  all_goals
    exact stationWf_of_queue_eq ((s.announcementSent_changes _).mono (by decide))
      (queue_of_sameBut (s.announcementSent_changes _) (by decide)) h

theorem enterStation_stationWf_of (h : s.StationWf) (hs : s.member.station ≠ .start) {x : Station}
    (hx : x ≠ .start) : (s.enterStation x).StationWf := by
  obtain ⟨-, ⟨-, -, -, quiet⟩, boot⟩ := (stationWf_iff s).mp h
  refine enterStation_stationWf hx ?_ quiet
  rwa [show (s.member.station != .start) = true by simp [hs]] at boot

/-- A ROLL CALL discarded as crowded sends the station from CLAIM to LISTEN (R5, R170). -/
theorem crowdedTo_stationWf {e : TxEntry} (claim : e.kind = .rollCall → s.member.station = .claim)
    (h : s.StationWf) : (s.crowdedTo e).StationWf := by
  unfold crowdedTo
  split
  case h_3 hk => exact enterStation_stationWf_of h (by simp [claim hk]) (by decide)
  case h_6 =>
    exact stationWf_of_queue_eq ((s.resultLeft_changes _ _).mono (by decide))
      (queue_of_sameBut (s.resultLeft_changes _ _) (by decide)) h
  all_goals exact h

theorem receive_stationWf (f : Frame) (h : s.StationWf) : (s.receive f).StationWf := by
  obtain ⟨queue, ⟨join, wait, hold, quiet⟩, boot⟩ := (stationWf_iff s).mp h
  have heard := s.receive_changes f
  have member := s.receive_member f
  have runs : (s.receive f).member.lineQuiet.isRunning = s.member.lineQuiet.isRunning := by
    rw [member]
    by_cases running : s.member.lineQuiet.isRunning = true
    · simp [running, timer]
    · simp [running]
  refine (stationWf_iff _).mpr ⟨?_, ?_, ?_⟩
  · rw [queue_of_sameBut heard (by decide), member]
    exact queue
  · unfold timesAs
    rw [runs, member]
    exact ⟨join, wait, hold, quiet⟩
  · have station : (s.receive f).member.station = s.member.station := 
      heard.of_not_mem (i := .station) (by decide)
    rw [station]
    exact booted_of_sameBut heard (by decide) (by decide) (by decide) (by decide) boot

theorem completeSending_stationWf {e : TxEntry} (he : s.line.sending = some e) (h : s.StationWf) :
    (s.completeSending e).StationWf := by
  unfold completeSending
  extract_lets s1
  have removed : s1.StationWf := ⟨fun x hx => h.1 x (List.mem_filter.mp hx).1, h.2⟩
  have told := sentTo_stationWf (s := s1) (e := e)
    (fun hk => h.claim_of_rollCall (Line.mem_of_sending he).1 hk) removed
  exact stationWf_of_queue_eq ((beginWait_changes _).mono (by decide)) (beginWait_queue _) told

theorem loseAttempt_stationWf {e : TxEntry} (he : s.line.sending = some e) (h : s.StationWf) :
    (s.loseAttempt e).StationWf := by
  unfold loseAttempt
  extract_lets s1 s2
  split_ifs
  · have line : s.sameBut [.wire, .counters, .latches] s2 := by
      intro i; cases i <;> simp [Item.same, s2, s1, onLatches, onCounters]
    have removed : s2.StationWf := stationWf_of_queue (line.mono (by decide))
      (fun x hx => h.1 x (List.mem_filter.mp hx).1) h
    exact crowdedTo_stationWf (s := s2)
      (fun hk => h.claim_of_rollCall (Line.mem_of_sending he).1 hk) removed
  · refine ⟨fun x hx => ?_, h.2⟩
    rcases mem_updateFirst hx with hx | ⟨y, hy, rfl⟩
    · exact h.1 x hx
    · exact h.1 y hy

theorem startAttempt_stationWf (e : TxEntry) (h : s.StationWf) : (s.startAttempt e).StationWf := by
  refine stationWf_of_kinds ((s.startAttempt_changes e).mono (by decide)) (fun x hx => ?_) h
  rw [s.startAttempt_queue e] at hx
  rcases mem_updateFirst hx with hx | ⟨y, hy, rfl⟩
  · exact ⟨x, hx, rfl⟩
  · exact ⟨y, hy, rfl⟩

theorem stationWf_wires : Wires StationWf where
  quiet h hs := stationWf_of_queue_eq (h.mono (by decide)) (queue_of_sameBut h (by decide)) hs
  taken _ hs := hs
  enter ho hx hs := enterStation_stationWf_of hs (by intro k; rw [k] at ho; cases ho)
    (by rintro rfl; cases hx)
  periodic k dest _ hs := placePeriodic_stationWf k dest hs
  reply k dest body use _ hs := placeReply_stationWf k dest body use hs
  scratch _ _ hs := hs
  heard f hs := receive_stationWf f hs
  idles {s} hs := stationWf_of_queue_eq (s.lineIdle_changes.mono (by decide)) s.lineIdle_queue hs
  starts hs := hs
  echoes _ _ hs := hs
  completes he hs := completeSending_stationWf he hs
  loses he hs := loseAttempt_stationWf he hs
  attempts {_ e _} _ hs := startAttempt_stationWf e hs
  sticks hs := hs
  returns hs := stationWf_of_queue_eq ((beginWait_changes _).mono (by decide)) (beginWait_queue _) hs

end State

end Sys2Proof.Machine
end

section
/-! PROOF. O54: every command keeps the law of the station states. -/

namespace Sys2Proof.Machine

namespace State
variable {s t : State}

theorem stationWf_released (role : Role) (a : Nat) (x y : Level) : (released role a x y).StationWf := by
  cases role <;> exact ⟨fun _ he => (List.not_mem_nil he).elim, rfl, rfl, fun h => Bool.noConfusion h,
    rfl, rfl, rfl, rfl, rfl⟩

/-- The end of START starts the aging, sample and plant timers, and stops its own (R1, R25, R105). -/
theorem endStart_stationWf (image : List Byte) (h : s.StationWf) (hs : s.member.station = .start) :
    (s.endStart image).StationWf := by
  obtain ⟨-, ⟨-, -, -, quiet⟩, -, -, -, plant⟩ := (stationWf_iff s).mp h
  unfold endStart
  have product := takeProduct_changes (s.configured (load s.role image))
  have timers := startTimers_changes (s.configured (load s.role image)).takeProduct
  have contacts := compareContacts_changes (s.configured (load s.role image)).takeProduct.startTimers
  obtain ⟨-, role, -, -, -, -, start, -⟩ := product.of_not_mem (i := .fixed) (by decide)
  have begun : (s.configured (load s.role image)).takeProduct.startTimers.booted true := by
    obtain ⟨-, roleT, -, -, -, -, startT, -⟩ := timers.of_not_mem (i := .fixed) (by decide)
    have plantStill : (s.configured (load s.role image)).takeProduct.plant.timer = s.plant.timer :=
      product.of_not_mem (i := .plantTimer) (by decide)
    refine ⟨by rw [startT, start]; rfl, ?_, ?_, ?_⟩
    · unfold startTimers
      rcases andIf_cases _ _ _ with ⟨-, k⟩ | ⟨-, k⟩ <;> rw [k] <;> rfl
    · unfold startTimers
      rcases andIf_cases _ _ _ with ⟨-, k⟩ | ⟨-, k⟩ <;> rw [k] <;> rfl
    · rw [roleT]
      unfold startTimers
      rcases andIf_cases _ _ _ with ⟨isPlant, k⟩ | ⟨isZone, k⟩ <;> rw [k]
      · simpa [timer] using isPlant.symm
      · rw [isZone]
        show (s.configured (load s.role image)).takeProduct.plant.timer.isRunning = _
        rw [plantStill, plant, hs]
        simp
  have boot := booted_of_sameBut contacts (by decide) (by decide) (by decide) (by decide) begun
  have member := (product.mono (b := [.setpoints, .wire, .shareResult, .drive, .aging, .sample,
    .plantTimer, .contacts]) (by decide)).trans ((timers.mono (by decide)).trans
      (contacts.mono (by decide)))
  have station := member.of_not_mem (i := .station) (by decide)
  obtain ⟨-, -, -, lineQuiet⟩ := member.of_not_mem (i := .stationTimers) (by decide)
  refine enterStation_stationWf (by split_ifs <;> decide) boot ?_
  rw [lineQuiet, station]
  exact quiet

/-- The plant timer starts again where it ran. -/
theorem stationWf_of_timers (h : s.sameBut [.sample, .plantTimer] t)
    (sample : t.sensing.sample.isRunning = s.sensing.sample.isRunning)
    (plant : t.plant.timer.isRunning = s.plant.timer.isRunning) (hs : s.StationWf) :
    t.StationWf := by
  obtain ⟨queue, times, start, aging, sample', plant'⟩ := (stationWf_iff s).mp hs
  have member := member_of_sameBut h (by decide)
  obtain ⟨-, role, -, -, -, -, startTimer, -⟩ := h.of_not_mem (i := .fixed) (by decide)
  refine (stationWf_iff t).mpr ⟨?_, ?_, ?_, ?_, ?_, ?_⟩
  · rw [queue_of_sameBut h (by decide), member]
    exact queue
  · rw [member]
    exact times
  · rw [startTimer, member]
    exact start
  · rw [member]
    exact aging
  · rw [sample, member]
    exact sample'
  · rw [plant, role, member]
    exact plant'

end State

open State in
theorem exec_stationWf (c : Instr) (s t : State) (h : s.StationWf) (hexec : exec c s = .next t) :
    t.StationWf := by
  cases special : timesStation c
  · exact stationWf_wires.exec h hexec special
  have law := h
  obtain ⟨-, -, join, wait, hold, quiet, aging, sample, plant⟩ := law
  have enters {x y : Station} (d : Nat) (hs : s.member.station = x) (hx : x ≠ .start) (hy : y ≠ .start) :
      ((s.reach d).enterStation y).StationWf :=
    enterStation_stationWf_of (s := s.reach d) h (by rwa [← hs] at hx) hy
  cases c <;> try exact Bool.noConfusion special
  all_goals obtain rfl := Host.Outcome.next.inj hexec
  case reset role a x y => exact stationWf_released role a.toNat x y
  case resetAsserted => exact stationWf_released s.role s.address _ _
  case startEnd image =>
    exact takeExpiry_keeps h fun d _ => andIf_keeps_of (P := StationWf) h fun hs =>
      endStart_stationWf (s := s.reach d) image h (by simpa using hs)
  case joinWindowExpiry =>
    refine takeExpiry_keeps h fun d hd => enters d (x := .listen) ?_ (by decide) (by decide)
    simpa [hd] using join
  case rollCallWaitExpiry =>
    refine takeExpiry_keeps h fun d hd => enters d (x := .claim) ?_ (by decide) (by decide)
    exact wait (by simp [hd])
  case duplicateHoldExpiry =>
    refine takeExpiry_keeps h fun d hd => enters d (x := .duplicate) ?_ (by decide) (by decide)
    simpa [hd] using hold
  case agingExpiry =>
    refine takeExpiry_keeps h fun d hd => ?_
    have again : ((s.reach d).onMember fun m =>
        { m with aging := (s.reach d).timer Config.agingMs }).StationWf := by
      obtain ⟨queue, start, join, wait, hold, quiet, -, rest⟩ := h
      exact ⟨queue, start, join, wait, hold, quiet, by rw [hd] at aging; exact aging, rest⟩
    dsimp only
    split_ifs
    · exact again
    · exact stationWf_wires.applyAging again
  case lineQuietExpiry =>
    refine takeExpiry_keeps h fun d hd => ?_
    obtain ⟨queue, start, join, wait, hold, -, rest⟩ := h
    exact ⟨queue, start, join, wait, hold, by rw [hd] at quiet; exact quiet, rest⟩
  case sampleTimerExpiry x y =>
    refine takeExpiry_keeps h fun d hd => ?_
    have again : ((s.reach d).onSensing fun g =>
        { g with sample := (s.reach d).timer Config.sampleMs }).StationWf := by
      refine stationWf_of_timers (s := s.reach d) ?_ (by simp [hd, timer]) rfl h
      intro i; cases i <;> simp [Item.same]
    exact stationWf_wires.handOver _ (stationWf_wires.quiet ((sampleChannels_changes _ _ _).mono
      (by decide)) again)
  case plantTimerExpiry =>
    refine takeExpiry_keeps h fun d hd => ?_
    have again : ((s.reach d).onPlant fun p =>
        { p with timer := (s.reach d).timer Config.plantMs }).StationWf := by
      refine stationWf_of_timers (s := s.reach d) ?_ rfl (by simp [hd, timer]) h
      intro i; cases i <;> simp [Item.same]
    exact stationWf_wires.quiet (((boostStep_changes _).mono (b := [.sequencer, .plantFlight])
      (by decide)).trans ((plantTrigger_changes _).mono (by decide)) |>.mono (by decide))
      (stationWf_wires.slewStep again)

/-! ### UNADDRESSED -/

namespace State

/-- UNADDRESSED under the law of the station states. -/
def Unaddressed (s : State) : Prop := s.StationWf ∧ s.member.station = .unaddressed

/-- UNADDRESSED queues nothing (R2). -/
theorem Unaddressed.not_mem {s : State} (h : s.Unaddressed) (e : TxEntry) : e ∉ s.line.queue := by
  intro he
  have allowed := h.1.1 e he
  rw [h.2] at allowed
  cases allowed

theorem unaddressed_wires : Wires Unaddressed where
  quiet h hs := ⟨stationWf_wires.quiet h hs.1, (h.of_not_mem (i := .station) (by decide)).trans hs.2⟩
  taken _ hs := hs
  enter ho _ hs := by
    rw [hs.2] at ho
    cases ho
  periodic k dest hk hs := ⟨stationWf_wires.periodic k dest hk hs.1,
    ((placePeriodic_changes _ k dest).of_not_mem (i := .station) (by decide)).trans hs.2⟩
  reply k dest body use hk hs := ⟨stationWf_wires.reply k dest body use hk hs.1,
    ((placeReply_changes _ k dest body use).of_not_mem (i := .station) (by decide)).trans hs.2⟩
  scratch _ _ hs := hs
  heard f hs := ⟨receive_stationWf f hs.1,
    ((receive_changes _ f).of_not_mem (i := .station) (by decide)).trans hs.2⟩
  idles {s} hs := ⟨stationWf_wires.idles hs.1,
    (s.lineIdle_changes.of_not_mem (i := .station) (by decide)).trans hs.2⟩
  starts hs := hs
  echoes _ _ hs := hs
  completes he hs := absurd (Line.mem_of_sending he).1 (hs.not_mem _)
  loses he hs := absurd (Line.mem_of_sending he).1 (hs.not_mem _)
  attempts {s e n} he hs := by
    refine absurd (Line.head_mem (l := s.line) (e := e) ?_) (hs.not_mem _)
    unfold mayAttempt at he
    split at he
    · cases he
    · split at he
      · rename_i head
        split at he
        · cases he
          exact head
        · cases he
      · cases he
  sticks hs := hs
  returns hs := ⟨stationWf_wires.returns hs.1,
    ((beginWait_changes _).of_not_mem (i := .station) (by decide)).trans hs.2⟩

/-- A timer that does not run has no expiry. -/
theorem takeExpiry_of_not_running {s : State} {r : Timer} {act : State → State}
    (h : r.isRunning = false) : s.takeExpiry r act = s := by
  rcases s.takeExpiry_cases r act with k | ⟨d, hd, -, -⟩
  · exact k
  · rw [hd] at h
    cases h

end State

open State in
theorem unaddressed_left {s t : State} {c : Instr} (h : s.StationWf)
    (hs : s.member.station = .unaddressed) (hexec : exec c s = .next t) :
    t.member.station = .unaddressed ∨
      (t.member.station = .start ∧ ((∃ role a x y, c = .reset role a x y) ∨ c = .resetAsserted)) := by
  cases special : timesStation c
  · exact .inl (unaddressed_wires.exec ⟨h, hs⟩ hexec special).2
  by_cases spared : ∃ a, touches c = some a ∧ .station ∉ a
  · obtain ⟨a, ha, hi⟩ := spared
    have station : _ = _ := (exec_changes ha hexec).of_not_mem hi
    exact .inl (station.trans hs)
  obtain ⟨-, start, join, wait, hold, -⟩ := h
  rw [hs] at start join wait hold
  have still {r : Timer} {act : State → State} (hr : r.isRunning = false) :
      (s.takeExpiry r act).member.station = .unaddressed := by
    rw [takeExpiry_of_not_running hr]
    exact hs
  cases c <;> try exact absurd ⟨_, rfl, by decide⟩ spared
  any_goals exact Bool.noConfusion special
  all_goals obtain rfl := Host.Outcome.next.inj hexec
  case reset role a x y => exact .inr ⟨rfl, .inl ⟨role, a, x, y, rfl⟩⟩
  case resetAsserted => exact .inr ⟨rfl, .inr rfl⟩
  case startEnd => exact .inl (still start)
  case joinWindowExpiry => exact .inl (still join)
  case rollCallWaitExpiry => exact .inl (still (by simpa using wait))
  case duplicateHoldExpiry => exact .inl (still hold)

/-- Settles O54: each operation of the queue places only what the station state allows, a change of the
station state purges the rest, and each timer is started and stopped with its states. -/
theorem everyStepKeepsTheStationLaw : Obligations.EveryStepKeepsTheStationLaw :=
  ⟨step_keeps (fun _ _ _ h => h) exec_stationWf, fun _ _ _ h hs hexec => unaddressed_left h hs hexec⟩

end Sys2Proof.Machine
end

section
/-! PROOF. The rooms of the line controller as a property of the line alone, and each operation of the
line controller keeps it (R163, R165 to R170). -/

namespace Sys2Proof.Machine

/-! ### Entries and queues -/

/-- What the law of the rooms says of one entry. -/
def TxEntry.wf (e : TxEntry) : Prop :=
  e.lost ≤ 15 ∧ e.body.isSome = (e.inFlight || !e.kind.periodic)

/-- The bytes an entry is sent as. -/
def TxEntry.size (e : TxEntry) : Nat := 7 + (e.body.getD []).length

theorem State.frameOf_length (s : State) (e : TxEntry) : (s.frameOf e).bytes.length = e.size := by
  simp [frameOf, Frame.bytes, Frame.covered, TxEntry.size]
  omega

/-- A queue within its rooms. -/
structure queueWf (q : List TxEntry) : Prop where
  periodic : q.countP (fun e => e.kind.periodic) ≤ 1
  replies : q.countP (fun e => !e.kind.periodic) ≤ 3
  flying : q.countP TxEntry.inFlight ≤ 1
  entries : ∀ e ∈ q, e.wf

theorem queueWf.sublist {q r : List TxEntry} (h : queueWf q) (hr : r.Sublist q) : queueWf r :=
  ⟨(hr.countP_le).trans h.periodic, (hr.countP_le).trans h.replies, (hr.countP_le).trans h.flying,
    fun e he => h.entries e (hr.subset he)⟩

theorem queueWf.filter {q : List TxEntry} (h : queueWf q) (p : TxEntry → Bool) :
    queueWf (q.filter p) := h.sublist List.filter_sublist

theorem queueWf.append {q : List TxEntry} (h : queueWf q) {e : TxEntry} (he : e.wf)
    (landed : e.inFlight = false)
    (room : (e.kind.periodic = true ∧ q.countP (fun e => e.kind.periodic) = 0) ∨
      (e.kind.periodic = false ∧ q.countP (fun e => !e.kind.periodic) < 3)) :
    queueWf (q ++ [e]) := by
  obtain ⟨periodic, replies, flying, entries⟩ := h
  refine ⟨?_, ?_, ?_, ?_⟩
  · rcases room with ⟨hk, hq⟩ | ⟨hk, -⟩
    · simp [hk, hq]
    · simpa [hk] using periodic
  · rcases room with ⟨hk, -⟩ | ⟨hk, hq⟩
    · simpa [hk] using replies
    · simp [hk]
      omega
  · simpa [landed] using flying
  · intro x hx
    rcases List.mem_append.mp hx with hx | hx
    · exact entries x hx
    · rw [List.mem_singleton.mp hx]
      exact he

/-- The queue with one entry updated where it stands, its kind kept. -/
theorem queueWf.update {before after : List TxEntry} {e e' : TxEntry}
    (h : queueWf (before ++ e :: after)) (he : e'.wf) (hk : e'.kind = e.kind)
    (hf : (before ++ e :: after).countP TxEntry.inFlight = 0 ∨ e'.inFlight = false ∨
      e.inFlight = true) : queueWf (before ++ e' :: after) := by
  obtain ⟨periodic, replies, flying, entries⟩ := h
  refine ⟨?_, ?_, ?_, ?_⟩
  · simpa [List.countP_cons, hk] using periodic
  · simpa [List.countP_cons, hk] using replies
  · simp only [List.countP_append, List.countP_cons] at flying hf ⊢
    rcases hf with hf | hf | hf
    · split_ifs <;> omega
    · simp [hf]; omega
    · simp only [hf, if_true] at flying
      split_ifs <;> omega
  · intro x hx
    rcases List.mem_append.mp hx with hx | hx
    · exact entries x (List.mem_append_left _ hx)
    · rcases List.mem_cons.mp hx with rfl | hx
      · exact he
      · exact entries x (List.mem_append_right _ (List.mem_cons_of_mem e hx))

/-- With one entry in flight, the others are on the ground. -/
theorem queueWf.rest_landed {before after : List TxEntry} {e : TxEntry}
    (h : queueWf (before ++ e :: after)) (he : e.inFlight = true) :
    ∀ x ∈ before ++ after, x.inFlight = false := by
  have flying := h.flying
  simp only [List.countP_append, List.countP_cons, he, if_true] at flying
  have none : (before ++ after).countP TxEntry.inFlight = 0 := by
    rw [List.countP_append]
    omega
  intro x hx
  simpa using List.countP_eq_zero.mp none x hx

theorem Line.sending_eq_none {l : Line} : l.sending = none ↔ ∀ e ∈ l.queue, e.inFlight = false := by
  simp [sending]

/-! ### The line -/

/-- The rooms of the line. -/
structure Line.wf (l : Line) : Prop where
  queue : queueWf l.queue
  pair : l.pair.length ≤ 2
  sequence : l.sequence < 256
  wait : ∀ x ∈ l.wait, x ≤ 7 ∧ l.idle = true ∧ l.stuck = false ∧ l.sending = none ∧ l.queue ≠ []
  landed : l.sending = none → l.echoed = 0
  flying : ∀ e ∈ l.sending, l.echoed < e.size

theorem State.lineWf_iff (s : State) : s.LineWf ↔ s.line.wf := by
  constructor
  · intro ⟨periodic, replies, flying, entries, pair, sequence, wait, landed, echo⟩
    rw [← List.countP_eq_length_filter] at periodic replies flying
    exact ⟨⟨periodic, replies, flying, entries⟩, pair, sequence, wait, landed,
      fun e he => s.frameOf_length e ▸ echo e he⟩
  · intro ⟨⟨periodic, replies, flying, entries⟩, pair, sequence, wait, landed, echo⟩
    rw [List.countP_eq_length_filter] at periodic replies flying
    exact ⟨periodic, replies, flying, entries, pair, sequence, wait, landed,
      fun e he => (s.frameOf_length e).symm ▸ echo e he⟩

theorem Line.sending_congr {l m : Line} (h : m.queue = l.queue) : m.sending = l.sending := by
  unfold sending
  rw [h]

/-- The fields the rooms speak of. -/
theorem Line.wf.congr {l m : Line} (h : l.wf) (queue : m.queue = l.queue)
    (pair : m.pair.length ≤ 2) (sequence : m.sequence = l.sequence) (wait : m.wait = l.wait)
    (idle : m.idle = l.idle) (stuck : m.stuck = l.stuck) (echoed : m.echoed = l.echoed) : m.wf := by
  have sending := Line.sending_congr queue
  exact ⟨queue ▸ h.queue, pair, sequence ▸ h.sequence, by
    rw [wait, idle, stuck, sending, queue]; exact h.wait, by
    rw [sending, echoed]; exact h.landed, by
    rw [sending, echoed]; exact h.flying⟩

/-- A line with no wait period and no attempt in flight. -/
theorem Line.wf_of_quiet {l : Line} (queue : queueWf l.queue) (pair : l.pair.length ≤ 2)
    (sequence : l.sequence < 256) (wait : l.wait = none) (landed : ∀ e ∈ l.queue, e.inFlight = false)
    (echoed : l.echoed = 0) : l.wf := by
  have sending := Line.sending_eq_none.mpr landed
  exact ⟨queue, pair, sequence, by simp [wait], fun _ => echoed, by simp [sending]⟩

/-- With an attempt in flight no wait period is in progress. -/
theorem Line.wf.wait_of_sending {l : Line} (h : l.wf) {e : TxEntry} (he : l.sending = some e) :
    l.wait = none := by
  cases hw : l.wait with
  | none => rfl
  | some x =>
    obtain ⟨-, -, -, none, -⟩ := h.wait x hw
    rw [none] at he
    cases he

namespace State
variable {s t : State}

theorem lineWf_of_sameBut {a : List Item} (h : s.sameBut a t) (hw : .wire ∉ a) (hp : .pair ∉ a)
    (hs : s.LineWf) : t.LineWf := by
  obtain ⟨queue, idle, stuck, wait, sequence, echoed, -⟩ := wire_same (h.of_not_mem hw)
  have pair : t.line.pair = s.line.pair := h.of_not_mem hp
  have wf := (lineWf_iff s).mp hs
  exact (lineWf_iff t).mpr (wf.congr queue (by rw [pair]; exact wf.pair) sequence wait idle stuck echoed)

/-- A wait period begins on a line that holds no frame in flight, if it begins at all (R167). -/
theorem beginWait_lineWf (h : s.LineWf) : s.beginWait.LineWf := by
  unfold beginWait
  split_ifs with begins
  · obtain ⟨queue, pair, -, -, landed, flying⟩ := (lineWf_iff s).mp h
    simp only [Bool.and_eq_true, Bool.not_eq_true', List.isEmpty_eq_false_iff,
      Option.isNone_iff_eq_none] at begins
    obtain ⟨⟨⟨held, none⟩, idle⟩, stuck⟩ := begins
    refine (lineWf_iff _).mpr ⟨queue, pair, Nat.mod_lt _ (by decide), ?_, landed, flying⟩
    intro x hx
    obtain rfl := Option.some.inj hx
    exact ⟨by omega, idle, stuck, none, held⟩
  · exact h

/-- An entry takes its place; the first one on a queue begins the wait (R165, R167). -/
theorem placeEntry_lineWf {e : TxEntry} (he : e.wf) (ground : e.inFlight = false)
    (room : (e.kind.periodic = true ∧ s.line.queue.countP (fun e => e.kind.periodic) = 0) ∨
      (e.kind.periodic = false ∧ s.line.queue.countP (fun e => !e.kind.periodic) < 3))
    (h : s.LineWf) : (s.placeEntry e).LineWf := by
  obtain ⟨queue, pair, sequence, wait, landed, flying⟩ := (lineWf_iff s).mp h
  unfold placeEntry
  extract_lets placed
  have sending : placed.line.sending = s.line.sending := by
    simp [placed, Line.sending, List.find?_append, ground]
  have grown : placed.line.wf := by
    refine ⟨queue.append he ground room, pair, sequence, ?_, ?_, ?_⟩
    · intro x hx
      obtain ⟨le, idle, stuck, none, -⟩ := wait x hx
      exact ⟨le, idle, stuck, sending ▸ none, by simp [placed]⟩
    · rw [sending]
      exact landed
    · rw [sending]
      exact flying
  have placedWf : placed.LineWf := (lineWf_iff placed).mpr grown
  split_ifs
  · exact beginWait_lineWf placedWf
  · exact placedWf

theorem placePeriodic_lineWf {k : TxKind} (dest : Nat) (hk : k.periodic = true) (h : s.LineWf) :
    (s.placePeriodic k dest).LineWf := by
  unfold placePeriodic
  split_ifs with ha held
  · exact h
  · exact h
  · refine placeEntry_lineWf ⟨Nat.zero_le _, by simp [hk]⟩ rfl (.inl ⟨hk, ?_⟩) h
    rw [List.countP_eq_zero]
    simpa using held

theorem placeReply_lineWf {k : TxKind} (dest : Nat) (body : List Byte) (use : ResultUse)
    (hk : k.periodic = false) (h : s.LineWf) : (s.placeReply k dest body use).1.LineWf := by
  unfold placeReply
  split_ifs with ha full
  · exact h
  · exact lineWf_of_sameBut (a := [.latches, .counters])
      (fun i => by cases i <;> simp [Item.same]) (by decide) (by decide) h
  · refine placeEntry_lineWf ⟨Nat.zero_le _, by simp [hk]⟩ rfl (.inr ⟨hk, ?_⟩) h
    rw [List.countP_eq_length_filter]
    omega

/-! ### A change of the station state (R3) -/

/-- The removal of the frames that the station state does not allow, a transmission of one stopped. -/
theorem purgeQueue_lineWf (h : s.LineWf) : s.purgeQueue.LineWf := by
  obtain ⟨queue, pair, sequence, wait, landed, flying⟩ := (lineWf_iff s).mp h
  unfold purgeQueue
  extract_lets gone stopped s1 s2
  have told : s2.sameBut [.responder, .restarts] (gone.foldl (fun t e => t.resultLeft e.use .removed) s2) :=
    sameBut_foldl (fun u e => u.resultLeft_changes _ _) _ _
  refine lineWf_of_sameBut told (by decide) (by decide) ?_
  have kept : queueWf s1.line.queue := queue.filter _
  have mem {e : TxEntry} : e ∈ s1.line.queue ↔ e ∈ s.line.queue ∧ s.member.station.allows e.kind := by
    simp [s1]
  cases hs : stopped
  · -- no frame in flight goes, so the attempt in flight is the one there was
    have stays {e : TxEntry} (he : e ∈ s.line.queue) (hf : e.inFlight = true) :
        s.member.station.allows e.kind = true := by
      by_contra hn
      have : stopped = true := List.any_eq_true.mpr ⟨e, by simp [gone, he, hn], hf⟩
      simp [hs] at this
    have sending : s1.line.sending = s.line.sending := by
      show (s.line.queue.filter _).find? _ = _
      rw [List.find?_filter]
      refine List.find?_congr fun e he => ?_
      cases hf : e.inFlight
      · simp
      · simp [stays he hf]
    have idle : s1.line.idle = s.line.idle := by simp [s1, hs]
    have echoed : s1.line.echoed = s.line.echoed := by simp [s1, hs]
    have landed1 : s1.line.sending = none → s1.line.echoed = 0 := by rwa [sending, echoed]
    have flying1 : ∀ e ∈ s1.line.sending, s1.line.echoed < e.size := by rwa [sending, echoed]
    have waited : s2 = if s1.line.queue.isEmpty then s1.onLine fun l => { l with wait := none }
        else s1 := by simp [s2, hs]
    rw [waited]
    refine (lineWf_iff _).mpr ?_
    split_ifs with he
    · exact ⟨kept, pair, sequence, fun x hx => (Option.not_mem_none x hx).elim, landed1, flying1⟩
    · refine ⟨kept, pair, sequence, fun x hx => ?_, landed1, flying1⟩
      obtain ⟨le, idle', stuck, none, -⟩ := wait x hx
      exact ⟨le, idle.trans idle', stuck, sending.trans none, by simpa using he⟩
  · -- the attempt in flight stops, and no other is in flight
    obtain ⟨e, he, hf⟩ := List.any_eq_true.mp hs
    obtain ⟨before, after, split⟩ := List.append_of_mem (List.mem_filter.mp he).1
    have rest := queueWf.rest_landed (split ▸ queue) hf
    have ground : ∀ x ∈ s1.line.queue, x.inFlight = false := by
      intro x hx
      obtain ⟨hx, allowed⟩ := mem.mp hx
      rw [split] at hx
      refine rest x ?_
      rcases List.mem_append.mp hx with hx | hx
      · exact List.mem_append_left _ hx
      · rcases List.mem_cons.mp hx with rfl | hx
        · simp [gone, allowed] at he
        · exact List.mem_append_right _ hx
    have waitless : s.line.wait = none := by
      cases sent : s.line.sending with
      | none => simp [Line.sending_eq_none.mp sent e (List.mem_filter.mp he).1] at hf
      | some x => exact ((lineWf_iff s).mp h).wait_of_sending sent
    have wf1 : s1.LineWf := (lineWf_iff s1).mpr
      (Line.wf_of_quiet kept pair sequence waitless ground (by simp [s1, hs]))
    have waited : s2 = if s1.line.queue.isEmpty then s1.onLine fun l => { l with wait := none }
        else s1.beginWait := by simp [s2, hs]
    rw [waited]
    split_ifs with he
    · exact (lineWf_iff _).mpr (Line.wf_of_quiet kept pair sequence rfl ground (by simp [s1, hs]))
    · exact beginWait_lineWf wf1

theorem moveTo_lineWf (x : Station) (h : s.LineWf) : (s.moveTo x).LineWf :=
  purgeQueue_lineWf (s := s.onMember _) h

theorem placeAnnouncement_lineWf (h : s.LineWf) : s.placeAnnouncement.LineWf := by
  unfold placeAnnouncement
  split_ifs
  · exact lineWf_of_sameBut (s.onAnnouncer_changes _) (by decide) (by decide) h
  · exact lineWf_of_sameBut (onAnnouncer_changes _ _) (by decide) (by decide)
      (placePeriodic_lineWf 0 (by cases s.role <;> rfl) h)

theorem entered_lineWf (h : s.LineWf) : s.entered.LineWf := by
  unfold entered
  split
  case h_4 => exact placePeriodic_lineWf _ rfl h
  case h_6 =>
    refine placeAnnouncement_lineWf (lineWf_of_sameBut (((shareTrigger_changes _).mono
      (b := [.shareFlight, .plantFlight]) (by decide)).trans ((plantTrigger_changes _).mono
        (by decide))) (by decide) (by decide) ?_)
    exact h
  all_goals exact h

theorem enterStation_lineWf (x : Station) (h : s.LineWf) : (s.enterStation x).LineWf := by
  rw [enterStation_eq]
  exact entered_lineWf (andIf_keeps (fun u hu => lineWf_of_sameBut u.leftOnline_changes (by decide)
    (by decide) hu) _ _ (moveTo_lineWf x h))

/-! ### Transmission (R168 to R170) -/

theorem completeSending_lineWf {e : TxEntry} (he : s.line.sending = some e) (h : s.LineWf) :
    (s.completeSending e).LineWf := by
  have wf := (lineWf_iff s).mp h
  unfold completeSending
  extract_lets s1
  have removed : s1.LineWf := (lineWf_iff s1).mpr (Line.wf_of_quiet (wf.queue.filter _) wf.pair
    wf.sequence (wf.wait_of_sending he) (by simp [s1]) rfl)
  exact beginWait_lineWf (lineWf_of_sameBut (s1.sentTo_changes e) (by decide) (by decide) removed)

theorem crowdedTo_lineWf (e : TxEntry) (h : s.LineWf) : (s.crowdedTo e).LineWf := by
  unfold crowdedTo
  split
  case h_3 => exact enterStation_lineWf _ h
  case h_6 => exact lineWf_of_sameBut (s.resultLeft_changes _ _) (by decide) (by decide) h
  all_goals exact h

/-- A lost attempt leaves no frame in flight; one lost for the sixteenth time is gone. -/
theorem loseAttempt_lineWf {e : TxEntry} (he : s.line.sending = some e) (h : s.LineWf) :
    (s.loseAttempt e).LineWf := by
  have wf := (lineWf_iff s).mp h
  have wait := wf.wait_of_sending he
  unfold loseAttempt
  extract_lets s1 s2
  split_ifs with crowded
  · exact crowdedTo_lineWf e ((lineWf_iff s2).mpr (Line.wf_of_quiet (wf.queue.filter _) wf.pair
      wf.sequence wait (by simp [s2, onLatches]) rfl))
  · obtain ⟨before, after, split, flies, first⟩ := split_of_find? he
    have queue := wf.queue
    rw [split] at queue
    have entry := queue.entries e (by simp)
    have updated : updateFirst TxEntry.inFlight TxEntry.afterLoss s.line.queue =
        before ++ e.afterLoss :: after := by
      rw [split]
      exact updateFirst_of_split _ first flies
    have afterLoss : e.afterLoss.wf := by
      refine ⟨show e.lost + 1 ≤ 15 by omega, ?_⟩
      have body := entry.2
      simp only [TxEntry.afterLoss]
      cases hk : e.kind.periodic <;> simp [hk, flies] at body ⊢
      exact body
    refine (lineWf_iff _).mpr (Line.wf_of_quiet ?_ wf.pair wf.sequence wait ?_ rfl)
    · show queueWf (updateFirst _ _ s.line.queue)
      rw [updated]
      exact queue.update afterLoss rfl (.inr (.inl rfl))
    · show ∀ x ∈ updateFirst _ _ s.line.queue, _
      rw [updated]
      intro x hx
      have rest := queue.rest_landed flies
      rcases List.mem_append.mp hx with hx | hx
      · exact rest x (List.mem_append_left _ hx)
      · rcases List.mem_cons.mp hx with rfl | hx
        · rfl
        · exact rest x (List.mem_append_right _ hx)

/-- The head of the queue is the first entry of its class (R166). -/
theorem mayAttempt_eq_some {n : Nat} {e : TxEntry} (h : s.mayAttempt n = some e) :
    s.line.sending = none ∧ s.line.stuck = false ∧
      s.line.queue.find? (fun x => x.kind.urgency == e.kind.urgency) = some e ∧
      ∃ x, s.line.wait = some x ∧ gapBits e.kind.urgency x ≤ n := by
  unfold mayAttempt at h
  split at h
  · cases h
  · rename_i free
    simp only [Bool.or_eq_true, not_or, Bool.not_eq_true, Option.isSome_eq_false_iff,
      Option.isNone_iff_eq_none] at free
    split at h
    · rename_i x f wait head
      split at h
      · rename_i gap
        obtain rfl := Option.some.inj h
        refine ⟨free.2, free.1, ?_, x, wait, gap⟩
        unfold Line.head at head
        split at head
        · have class' := List.find?_some head
          rwa [beq_iff_eq.mp class']
        · cases head
      · cases h
    · cases h

theorem startAttempt_lineWf {n : Nat} {e : TxEntry} (he : s.mayAttempt n = some e) (h : s.LineWf) :
    (s.startAttempt e).LineWf := by
  have wf := (lineWf_iff s).mp h
  obtain ⟨none, -, head, -⟩ := mayAttempt_eq_some he
  have ground := Line.sending_eq_none.mp none
  obtain ⟨before, after, split, self, first⟩ := split_of_find? head
  have queue := wf.queue
  rw [split] at queue ground
  obtain ⟨lost, body⟩ := queue.entries e (by simp)
  unfold startAttempt
  extract_lets s1 sent s2
  refine lineWf_of_sameBut (sameBut_andIf (fun u => u.onAnnouncer_changes _) s2 _) (by decide)
    (by decide) ?_
  have truncated := s.truncate_changes
  have q1 : s1.line.queue = s.line.queue := s.truncate_queue
  have p1 : s1.line.pair = s.line.pair := truncated.of_not_mem (i := .pair) (by decide)
  have seq1 : s1.line.sequence = s.line.sequence := by
    unfold s1 truncate
    split_ifs <;> rfl
  have updated : s2.line.queue = before ++ { e with inFlight := true, body := sent } :: after := by
    show updateFirst _ _ s1.line.queue = _
    rw [q1, split]
    exact updateFirst_of_split _ first self
  have begun : ({ e with inFlight := true, body := sent } : TxEntry).wf := by
    refine ⟨lost, ?_⟩
    unfold sent
    cases hk : e.kind.periodic
    · simpa [hk, ground e (by simp)] using body
    · simp
  have sending : s2.line.sending = some { e with inFlight := true, body := sent } := by
    unfold Line.sending
    rw [updated, List.find?_append, List.find?_eq_none.mpr]
    · simp
    · exact fun x hx => by simpa using ground x (by simp [hx])
  refine (lineWf_iff s2).mpr ⟨?_, p1 ▸ wf.pair, seq1 ▸ wf.sequence,
    fun x hx => (Option.not_mem_none x hx).elim, fun _ => rfl, ?_⟩
  · rw [updated]
    refine queue.update begun rfl (.inl ?_)
    rw [List.countP_eq_zero]
    simpa using ground
  · rw [sending]
    intro x hx
    exact Nat.lt_of_lt_of_le (by decide : 0 < 7) (Nat.le_add_right ..)

theorem receive_lineWf (f : Frame) (h : s.LineWf) : (s.receive f).LineWf := by
  have wf := (lineWf_iff s).mp h
  obtain ⟨queue, idle, stuck, wait, sequence, echoed, -⟩ :=
    wire_same ((s.receive_changes f).of_not_mem (i := .wire) (by decide))
  refine (lineWf_iff _).mpr (wf.congr queue ?_ sequence wait idle stuck echoed)
  have pair := wf.pair
  unfold receive
  extract_lets s1
  have still : s1.line.pair = s.line.pair := by
    unfold s1
    cases s.member.lineQuiet.isRunning <;> rfl
  by_cases addressed : (f.dest.toNat == 0 || f.dest.toNat == s.address) = true
  · rw [if_pos addressed]
    by_cases room : s.line.pair.length < 2
    · rw [if_pos room]
      simpa [still] using room
    · rw [if_neg room]
      simpa [onLatches, onCounters, still] using pair
  · rw [if_neg addressed, still]
    exact pair

theorem lineIdle_lineWf (h : s.LineWf) : s.lineIdle.LineWf := by
  have wf := (lineWf_iff s).mp h
  unfold lineIdle
  split_ifs with still
  · exact h
  · simp only [Bool.or_eq_true, not_or, Bool.not_eq_true, Option.isSome_eq_false_iff,
      Option.isNone_iff_eq_none] at still
    have wait : s.line.wait = none := by
      cases hw : s.line.wait with
      | none => rfl
      | some x => simp [wf.wait x hw] at still
    exact beginWait_lineWf ((lineWf_iff _).mpr (Line.wf_of_quiet wf.queue wf.pair wf.sequence wait
      (Line.sending_eq_none.mp still.1) (wf.landed still.1)))

theorem lineWf_wires : Wires LineWf where
  quiet h hs := lineWf_of_sameBut h (by decide) (by decide) hs
  taken {s f rest} front hs := by
    have wf := (lineWf_iff s).mp hs
    have pair := wf.pair
    rw [front] at pair
    exact (lineWf_iff _).mpr (wf.congr rfl (by simp at pair ⊢; omega) rfl rfl rfl rfl rfl)
  enter _ _ hs := enterStation_lineWf _ hs
  periodic _ dest hk hs := placePeriodic_lineWf dest hk hs
  reply _ dest body use hk hs := placeReply_lineWf dest body use hk hs
  scratch _ _ hs := hs
  heard f hs := receive_lineWf f hs
  idles hs := lineIdle_lineWf hs
  starts {s} hs := by
    obtain ⟨queue, pair, sequence, -, landed, flying⟩ := (lineWf_iff s).mp hs
    exact (lineWf_iff _).mpr ⟨queue, pair, sequence, fun x hx => (Option.not_mem_none x hx).elim, landed, flying⟩
  echoes {s e} he goesOn hs := by
    obtain ⟨queue, pair, sequence, wait, -, flying⟩ := (lineWf_iff s).mp hs
    have sending : (s.onLine fun l => { l with echoed := l.echoed + 1 }).line.sending = some e := he
    refine (lineWf_iff _).mpr ⟨queue, pair, sequence, wait, ?_, ?_⟩
    · rw [sending]
      exact fun k => (Option.some_ne_none e k).elim
    · rw [sending]
      rintro x ⟨⟩
      rwa [frameOf_length] at goesOn
  completes he hs := completeSending_lineWf he hs
  loses he hs := loseAttempt_lineWf he hs
  attempts he hs := startAttempt_lineWf he hs
  sticks {s} hs := by
    obtain ⟨queue, pair, sequence, -, landed, flying⟩ := (lineWf_iff s).mp hs
    exact (lineWf_iff _).mpr ⟨queue, pair, sequence, fun x hx => (Option.not_mem_none x hx).elim, landed, flying⟩
  returns {s} hs := by
    obtain ⟨queue, pair, sequence, wait, landed, flying⟩ := (lineWf_iff s).mp hs
    refine beginWait_lineWf ((lineWf_iff _).mpr ⟨queue, pair, sequence, fun x hx => ?_, landed, flying⟩)
    obtain ⟨le, -, -, none, held⟩ := wait x hx
    exact ⟨le, rfl, rfl, none, held⟩

end State

end Sys2Proof.Machine
end

section
/-! PROOF. O55: every command keeps the rooms of the line controller and the address in its range. -/

namespace Sys2Proof.Machine

theorem Line.wf_reset : Line.reset.wf :=
  Line.wf_of_quiet ⟨by decide, by decide, by decide, fun _ he => (List.not_mem_nil he).elim⟩ (by decide)
    (by decide) rfl (fun _ he => (List.not_mem_nil he).elim) rfl

theorem State.lineWf_released (role : Role) (a : Nat) (x y : Level) :
    (State.released role a x y).LineWf := (lineWf_iff _).mpr Line.wf_reset

open State in
theorem exec_lineWf (c : Instr) (s t : State) (ha : s.address ≤ 63) (h : s.LineWf)
    (hexec : exec c s = .next t) : t.LineWf := by
  cases special : timesStation c
  · exact lineWf_wires.exec h hexec special
  by_cases spared : ∃ a, touches c = some a ∧ .wire ∉ a ∧ .pair ∉ a
  · obtain ⟨a, ha, hw, hp⟩ := spared
    exact lineWf_of_sameBut (exec_changes ha hexec) hw hp h
  cases c <;> try exact absurd ⟨_, rfl, by decide, by decide⟩ spared
  any_goals exact Bool.noConfusion special
  all_goals obtain rfl := Host.Outcome.next.inj hexec
  case reset role a x y => exact lineWf_released role _ x y
  case resetAsserted => exact lineWf_released s.role s.address .opened .opened
  case startEnd image =>
    refine takeExpiry_keeps h fun d _ => andIf_keeps_of (P := LineWf) h fun _ => ?_
    obtain ⟨queue, pair, -, wait, landed, flying⟩ := (lineWf_iff s).mp h
    have taken : (((s.reach d).configured (load s.role image)).takeProduct).LineWf := by
      refine lineWf_of_sameBut (sameBut_of_drives (handTarget_frame _ _)) (by decide) (by decide) ?_
      exact (lineWf_iff _).mpr ⟨queue, pair, show s.address < 256 by omega, wait, landed, flying⟩
    have timed := (startTimers_changes ((s.reach d).configured (load s.role image)).takeProduct).mono
      (b := [.aging, .sample, .plantTimer, .contacts]) (by decide) |>.trans
        ((compareContacts_changes _).mono (by decide))
    exact enterStation_lineWf _ (lineWf_of_sameBut timed (by decide) (by decide) taken)
  case joinWindowExpiry | rollCallWaitExpiry | duplicateHoldExpiry =>
    exact takeExpiry_keeps h fun d _ => enterStation_lineWf (s := s.reach d) _ h
  case agingExpiry =>
    refine takeExpiry_keeps h fun d _ => ?_
    dsimp only
    split_ifs
    · exact h
    · exact lineWf_wires.applyAging h
  case sampleTimerExpiry x y =>
    refine takeExpiry_keeps h fun d _ => lineWf_wires.handOver _ ?_
    exact lineWf_of_sameBut (sampleChannels_changes _ _ _) (by decide) (by decide) h
  case plantTimerExpiry =>
    refine takeExpiry_keeps h fun d _ => ?_
    exact lineWf_of_sameBut (((boostStep_changes _).mono (b := [.sequencer, .plantFlight])
      (by decide)).trans ((plantTrigger_changes _).mono (by decide))) (by decide) (by decide)
      (lineWf_wires.slewStep h)

open State in
/-- The address is the strap's, six bits wide; only RESET samples it (R184). -/
theorem exec_address (c : Instr) (s t : State) (h : s.address ≤ 63) (hexec : exec c s = .next t) :
    t.address ≤ 63 := by
  by_cases fixed : ∃ a, touches c = some a ∧ .fixed ∉ a
  · obtain ⟨a, ha, hf⟩ := fixed
    obtain ⟨-, -, address, -⟩ := (exec_changes ha hexec).of_not_mem hf
    rwa [address]
  cases c <;> try exact absurd ⟨_, rfl, by decide⟩ fixed
  all_goals obtain rfl := Host.Outcome.next.inj hexec
  case reset role a x y => exact Nat.lt_succ_iff.mp a.isLt
  case resetAsserted => exact h
  case startEnd image =>
    refine takeExpiry_keeps (P := fun u => u.address ≤ 63) h fun d _ =>
      andIf_keeps_of (P := fun u => u.address ≤ 63) h fun _ => ?_
    obtain ⟨-, -, rest, -⟩ := ((s.reach d).endStart_rest_changes image).of_not_mem (i := .fixed)
      (by decide)
    obtain ⟨-, -, product, -⟩ := (takeProduct_changes ((s.reach d).configured
      (load s.role image))).of_not_mem (i := .fixed) (by decide)
    exact (rest.trans product).le.trans h

/-- Settles O55: each operation of the queue keeps its rooms, an attempt leaves and enters flight alone,
and a wait period begins only where the line is free for it. -/
theorem everyStepKeepsTheQueueRooms : Obligations.EveryStepKeepsTheQueueRooms := by
  intro s t address line hstep
  exact step_keeps (P := fun u => u.address ≤ 63 ∧ u.LineWf) (fun _ _ _ h => h)
    (fun c u v h hexec => ⟨exec_address c u v h.1 hexec, exec_lineWf c u v h.1 h.2 hexec⟩)
    s t ⟨address, line⟩ hstep

end Sys2Proof.Machine
end

section
/-! PROOF. The stages of a SETPOINT, and the invariants of sensing, setpoints and demand (R26 to R31, R34,
R37 to R39, R43 to R51). -/

namespace Sys2Proof.Machine

/-! ### The range, lock and separation stages (R37 to R39) -/

/-- The lock narrows the range around the home value, which lies in it (R37, R38). -/
theorem rangeAndLock_mem {v lo hi home span : Int} (lock : Bool) (hl : lo ≤ hi)
    (hh : lo ≤ home ∧ home ≤ hi) (hs : 0 ≤ span) :
    lo ≤ (rangeAndLock v lo hi home lock span).1 ∧ (rangeAndLock v lo hi home lock span).1 ≤ hi := by
  cases lock <;> simp only [rangeAndLock, clampInt, if_true, Bool.false_eq_true, if_false] <;> omega

theorem rangeAndLock_unlocked {v lo hi : Int} (home span : Int) (h : lo ≤ v ∧ v ≤ hi) :
    (rangeAndLock v lo hi home false span).1 = v := by
  simp only [rangeAndLock, clampInt, Bool.false_eq_true, if_false]
  omega

theorem rangeAndLock_locked {v lo hi home span : Int} (hs : 0 ≤ span) :
    home - span ≤ (rangeAndLock v lo hi home true span).1 ∧
      (rangeAndLock v lo hi home true span).1 ≤ home + span := by
  simp only [rangeAndLock, clampInt, if_true]
  omega

theorem stageField_mem {v : Option Int} {present lo hi home span : Int} (lock : Bool) (hl : lo ≤ hi)
    (hp : lo ≤ present ∧ present ≤ hi) (hh : lo ≤ home ∧ home ≤ hi) (hs : 0 ≤ span) :
    lo ≤ (stageField v present lo hi home lock span).1 ∧
      (stageField v present lo hi home lock span).1 ≤ hi := by
  cases v with
  | none => exact hp
  | some x => exact rangeAndLock_mem lock hl hh hs

/-- The heat figure has the last word where it is given (R39). -/
theorem separate_of_heat (cg : Bool) (heat cool : Int) : separate true cg heat cool =
    if cool < heat + 20 then
      if 320 < heat + 20 then ((300, heat != 300), (320, true)) else ((heat, false), (heat + 20, true))
    else ((heat, false), (cool, false)) := by
  simp [separate]

theorem separate_of_cool (heat cool : Int) : separate false true heat cool =
    if cool < heat + 20 then
      if cool - 20 < 100 then ((100, true), (120, cool != 120)) else ((cool - 20, true), (cool, false))
    else ((heat, false), (cool, false)) := by
  simp [separate]

theorem separate_of_none (heat cool : Int) :
    separate false false heat cool = ((heat, false), (cool, false)) := rfl

/-- Figures in their ranges, 20 apart. -/
def apart (heat cool : Int) : Prop :=
  (100 ≤ heat ∧ heat ≤ 300) ∧ (120 ≤ cool ∧ cool ≤ 320) ∧ heat + 20 ≤ cool

/-- Whatever was given, the figures come out in range and 20 apart (R39). -/
theorem separate_apart {hg cg : Bool} {heat cool : Int} (hh : 100 ≤ heat ∧ heat ≤ 300)
    (hc : 120 ≤ cool ∧ cool ≤ 320) (given : hg = false → cg = false → heat + 20 ≤ cool) :
    apart (separate hg cg heat cool).1.1 (separate hg cg heat cool).2.1 := by
  unfold apart
  cases hg
  · cases cg
    · exact ⟨hh, hc, given rfl rfl⟩
    · rw [separate_of_cool]
      split_ifs <;> dsimp only <;> omega
  · rw [separate_of_heat]
    split_ifs <;> dsimp only <;> omega

/-- A heat figure given stands: the cool figure gives way to it. -/
theorem separate_heat_given {cg : Bool} {heat cool : Int} (hh : heat ≤ 300) :
    (separate true cg heat cool).1.1 = heat := by
  rw [separate_of_heat]
  split_ifs <;> dsimp only
  omega

/-- A cool figure given alone stands: the heat figure gives way to it. -/
theorem separate_cool_given {heat cool : Int} (hc : 120 ≤ cool) :
    (separate false true heat cool).2.1 = cool := by
  rw [separate_of_cool]
  split_ifs <;> dsimp only
  omega

/-- A figure not given moves by a push that its mark tells. -/
theorem separate_heat_pushed (cg : Bool) (heat cool : Int) :
    (separate false cg heat cool).1.1 = heat ∨ (separate false cg heat cool).1.2 = true := by
  cases cg
  · exact .inl rfl
  · rw [separate_of_cool]
    split_ifs
    · exact .inr rfl
    · exact .inr rfl
    · exact .inl rfl

theorem separate_cool_pushed (hg : Bool) (heat cool : Int) :
    (separate hg false heat cool).2.1 = cool ∨ (separate hg false heat cool).2.2 = true := by
  cases hg
  · exact .inl rfl
  · rw [separate_of_heat]
    split_ifs
    · exact .inr rfl
    · exact .inr rfl
    · exact .inl rfl

theorem Setpoints.work_wf {p : Setpoints} {c : Config.Product} (h k y : Option Int)
    (hf : p.figures.wf) (hh : p.home.wf) (hs : 0 ≤ c.lockSpan) : (p.work c h k y).1.wf := by
  obtain ⟨heat, cool, gap, humidity⟩ := hf
  obtain ⟨heatHome, coolHome, -, humidityHome⟩ := hh
  have heat' := stageField_mem (v := h) c.panelLock (by decide) heat heatHome hs
  have cool' := stageField_mem (v := k) c.panelLock (by decide) cool coolHome hs
  have humidity' := stageField_mem (v := y) c.panelLock (by decide) humidity humidityHome hs
  obtain ⟨heat'', cool'', gap'⟩ := separate_apart (hg := h.isSome) (cg := k.isSome) heat' cool'
    fun none none' => by
      obtain rfl := Option.isSome_eq_false_iff.mp none |> Option.isNone_iff_eq_none.mp
      obtain rfl := Option.isSome_eq_false_iff.mp none' |> Option.isNone_iff_eq_none.mp
      exact gap
  exact ⟨heat'', cool'', gap', humidity'⟩

/-- Settles O31: each stage by its own lemma, the heat figure's word being the last. -/
theorem setpointStagesKeepTheirDistance : Obligations.SetpointStagesKeepTheirDistance := by
  intro p c h k y figures home span
  refine ⟨p.work_wf h k y figures home span, ?heatStands, ?coolStands, ?noneGiven, ?heatPushed,
    ?coolPushed, ?humidity, ?locked⟩
  case heatStands =>
    rintro unlocked v rfl low high
    have ranged := rangeAndLock_unlocked p.home.heat c.lockSpan ⟨low, high⟩
    rw [← unlocked] at ranged
    exact (separate_heat_given (ranged.le.trans high)).trans ranged
  case coolStands =>
    rintro unlocked v rfl rfl low high
    have ranged := rangeAndLock_unlocked p.home.cool c.lockSpan ⟨low, high⟩
    rw [← unlocked] at ranged
    exact (separate_cool_given (low.trans ranged.ge)).trans ranged
  case noneGiven =>
    rintro rfl rfl
    exact ⟨rfl, rfl⟩
  case heatPushed =>
    rintro rfl
    exact separate_heat_pushed _ _ _
  case coolPushed =>
    rintro rfl
    exact separate_cool_pushed _ _ _
  case humidity =>
    rintro rfl
    rfl
  case locked =>
    rintro lock v rfl
    have inRange := rangeAndLock_mem (v := v) c.panelLock (by decide : (100 : Int) ≤ 300) home.1 span
    have inSpan := rangeAndLock_locked (v := v) (lo := 100) (hi := 300) (home := p.home.heat) span
    rw [← lock] at inSpan
    have stands : (p.work c (some v) k y).1.heat =
        (rangeAndLock v 100 300 p.home.heat c.panelLock c.lockSpan).1 := separate_heat_given inRange.2
    rwa [stands]

/-! ### The invariants of sensing, setpoints and demand -/

/-- The home values of a product in its ranges (R34). -/
theorem homeFigures_wf {c : Config.Product} (h : productWf c) : (homeFigures c).wf := by
  obtain ⟨-, -, -, -, -, -, -, -, -, heat, cool, humidity, -⟩ := h
  refine ⟨heat, ?_, le_max_right _ _, ?_⟩
  · show 120 ≤ max c.cool (c.heat + 20) ∧ max c.cool (c.heat + 20) ≤ 320
    omega
  · show (35 : Int) ≤ (c.humidity : Int) ∧ (c.humidity : Int) ≤ 70
    omega

theorem figures_defaults_wf : (Figures.ofProduct Config.defaults).wf := by decide

theorem Channel.wf_reset (lo hi : Int) : Channel.reset.wf lo hi :=
  ⟨Nat.zero_le _, Nat.zero_le _, .inl rfl, fun _ h => (Option.not_mem_none _ h).elim⟩

/-- A quarter of the way to a value of the range stays in the range (R29). -/
theorem filter_mem {lo hi f v : Int} (hf : lo ≤ f ∧ f ≤ hi) (hv : lo ≤ v ∧ v ≤ hi) :
    lo ≤ f + (v - f).tdiv 4 ∧ f + (v - f).tdiv 4 ≤ hi := by
  rcases le_total f v with rises | falls
  · rw [Int.tdiv_eq_ediv_of_nonneg (by omega)]
    omega
  · rw [show v - f = -(f - v) by omega, Int.neg_tdiv, Int.tdiv_eq_ediv_of_nonneg (by omega)]
    omega

theorem Channel.good1_wf {lo hi v : Int} {c : Channel} (h : c.wf lo hi) (hv : lo ≤ v ∧ v ≤ hi) :
    (c.good1 v).wf lo hi := by
  obtain ⟨-, -, -, filtered⟩ := h
  have most := saturate_le (n := c.good) (limit := 3)
  unfold Channel.good1
  extract_lets good
  split_ifs
  · exact ⟨Nat.zero_le _, most, .inl rfl, by rintro x ⟨⟩; exact hv⟩
  · exact ⟨Nat.zero_le _, most, .inl rfl, filtered⟩
  · refine ⟨Nat.zero_le _, most, .inl rfl, ?_⟩
    rintro x ⟨⟩
    cases hc : c.filtered with
    | none => exact hv
    | some f => exact filter_mem (filtered f hc) hv

theorem Channel.bad1_wf {lo hi : Int} {c : Channel} (h : c.wf lo hi) : c.bad1.wf lo hi :=
  ⟨saturate_le, Nat.zero_le _, .inr rfl, h.2.2.2⟩

/-- A good sample is one of the raw range (R26). -/
theorem plausible_mem {role : Role} {first : Bool} {v : Int} (h : plausible role first v = true) :
    (role = .zone → first = true → 0 ≤ v ∧ v ≤ 600) ∧
      (role = .zone → first = false → 0 ≤ v ∧ v ≤ 1000) ∧ (role = .plant → -300 ≤ v ∧ v ≤ 850) := by
  cases role <;> cases first <;> simpa [plausible] using h

theorem Channel.sample_wf {lo hi : Int} {c : Channel} {role : Role} {first : Bool} (r : Conversion)
    (range : ∀ v, plausible role first v = true → lo ≤ v ∧ v ≤ hi) (h : c.wf lo hi) :
    (c.sample role first r).wf lo hi := by
  unfold Channel.sample
  split
  · rename_i v good
    refine Channel.good1_wf h (range v ?_)
    unfold goodSample at good
    split at good
    · split_ifs at good with ok
      obtain rfl := Option.some.inj good
      exact ok
    · cases good
    · cases good
  · exact Channel.bad1_wf h

namespace State
variable {s t : State}

theorem sampleChannels_sensingWf (x y : Conversion) (h : s.SensingWf) :
    (s.sampleChannels x y).SensingWf := by
  obtain ⟨zone, plant⟩ := h
  refine ⟨fun hr => ?_, fun hr => ?_⟩
  · replace hr : s.role = .zone := hr
    obtain ⟨first, second⟩ := zone hr
    exact ⟨Channel.sample_wf x (fun v hv => (plausible_mem hv).1 hr rfl) first,
      Channel.sample_wf y (fun v hv => (plausible_mem hv).2.1 hr rfl) second⟩
  · replace hr : s.role = .plant := hr
    obtain ⟨first, second⟩ := plant hr
    exact ⟨Channel.sample_wf x (fun v hv => (plausible_mem hv).2.2 hr) first,
      Channel.sample_wf y (fun v hv => (plausible_mem hv).2.2 hr) second⟩

theorem sensingWf_of_sameBut {a : List Item} (h : s.sameBut a t) (hf : .fixed ∉ a)
    (hc : .channels ∉ a) (hs : s.SensingWf) : t.SensingWf := by
  obtain ⟨-, role, -⟩ := h.of_not_mem hf
  obtain ⟨first, second⟩ := h.of_not_mem hc
  unfold State.SensingWf
  rwa [role, first, second]

theorem setpointsWf_of_sameBut {a : List Item} (h : s.sameBut a t) (hf : .fixed ∉ a)
    (hc : .setpoints ∉ a) (hs : s.SetpointsWf) : t.SetpointsWf := by
  obtain ⟨-, -, -, cfg, -⟩ := h.of_not_mem hf
  have setpoints : _ = _ := h.of_not_mem hc
  unfold State.SetpointsWf
  rwa [cfg, setpoints]

theorem demandWf_of_sameBut {a : List Item} (h : s.sameBut a t) (hd : .demand ∉ a)
    (hs : s.DemandWf) : t.DemandWf := by
  have demand : _ = _ := h.of_not_mem hd
  unfold State.DemandWf Demand.figure at *
  rw [demand]
  exact hs

end State

end Sys2Proof.Machine
end

section
/-! PROOF. O56: every command keeps the channels, the setpoints and the demand in their ranges. -/

namespace Sys2Proof.Machine

theorem State.formDemands_dDry (s : State) : s.formDemands.demand.dDry =
    if s.sensing.second.usable then
      (clampInt (s.sensing.second.filtered.getD 0 - 10 * s.setpoints.figures.humidity) 0 100).toNat
    else 0 := rfl

theorem toNat_clampInt_le (x : Int) : (clampInt x 0 100).toNat ≤ 100 := by
  unfold clampInt
  omega

namespace State
variable {s t : State}

/-- The three demands in their ranges, never heat and cool together (R44 to R46). -/
def demandsApart (s : State) : Prop :=
  s.demand.dHeat ≤ 100 ∧ s.demand.dCool ≤ 100 ∧ s.demand.dDry ≤ 100 ∧
    (s.demand.dHeat = 0 ∨ s.demand.dCool = 0)

theorem formDemands_apart (h : s.SetpointsWf) : s.formDemands.demandsApart := by
  have zero_le : (0 : Nat) ≤ 100 := by decide
  refine ⟨?_, ?_, ?_, ?_⟩
  · rw [formDemands_dHeat]
    split
    · exact toNat_clampInt_le _
    · exact zero_le
  · rw [formDemands_dCool]
    split
    · exact toNat_clampInt_le _
    · exact zero_le
  · rw [formDemands_dDry]
    split
    · exact toNat_clampInt_le _
    · exact zero_le
  · obtain ⟨-, -, -, never⟩ := heatAndCoolDemandNeverTogether s h
    omega

/-- A wanted mode is entered, and stays, only with a figure above 0 (R48 to R51). -/
theorem figure_wantedNext_pos (s : State) (h : s.wantedNext ≠ .none) :
    1 ≤ s.demand.figure s.wantedNext := by
  cases hs : s.suppressed
  · have dry : s.dryEntry = true → 1 ≤ s.demand.dDry := by
      simp only [dryEntry, Bool.and_eq_true, decide_eq_true_eq]
      omega
    have stays : s.dryExit = false → 1 ≤ s.demand.dDry := by
      simp only [dryExit, Bool.or_eq_false_iff, beq_eq_false_iff_ne]
      omega
    cases hw : s.demand.wanted <;> simp only [wantedNext, hs, hw, Bool.false_eq_true, if_false] at h ⊢ <;>
      split_ifs at h ⊢ <;> simp_all [Demand.figure] <;> omega
  · exact absurd (by simp [wantedNext, hs]) h

/-- An evaluation sets the wanted mode and its figure, the demands as they stand (R47 to R51). -/
theorem evaluate_demandWf (old : State) (h : s.demandsApart) : (s.evaluate old).DemandWf := by
  obtain ⟨heat, cool, dry, apart⟩ := h
  unfold evaluate
  extract_lets w s1 modeChanged reliefChanged s2
  have stored : s1.DemandWf := by
    refine ⟨heat, cool, dry, ?_, ?_, apart⟩
    · have figures (k : WantedMode) : s.demand.figure k = s1.demand.figure k := by cases k <;> rfl
      exact figures w
    · exact s.figure_wantedNext_pos
  exact demandWf_of_sameBut (((sameBut_andIf shareTrigger_changes _ _).mono
    (b := [.shareFlight, .wire, .announcer]) (by decide)).trans
      ((sameBut_andIf promptCause_changes _ _).mono (by decide))) (by decide) stored

theorem recompute_demandWf (old : State) (h : s.SetpointsWf) : (s.recompute old).DemandWf :=
  evaluate_demandWf old (formDemands_apart (s := s.onDemand fun d => { d with unoccupied := s.vacant }) h)

theorem demandsApart_of_demandWf (h : s.DemandWf) : s.demandsApart := by
  obtain ⟨heat, cool, dry, -, -, apart⟩ := h
  exact ⟨heat, cool, dry, apart⟩

theorem handOver_demandWf (old : State) (h : s.SetpointsWf) (hd : s.DemandWf) :
    (s.handOver old).DemandWf := by
  unfold handOver
  split
  · exact demandWf_of_sameBut (promptFlags_changes _ _) (by decide) (recompute_demandWf old h)
  · exact demandWf_of_sameBut (((plantTriggers_changes _ _).mono (b := [.plantFlight, .wire, .announcer])
      (by decide)).trans ((promptFlags_changes _ _).mono (by decide))) (by decide) hd

theorem contactChanged_demandWf (old : State) (c : Contact) (h : s.DemandWf) :
    (s.contactChanged old c).DemandWf := by
  unfold contactChanged
  split
  · exact demandWf_of_sameBut (((shareTrigger_changes _).mono (b := [.shareFlight, .wire, .announcer])
      (by decide)).trans ((promptFlags_changes _ _).mono (by decide))) (by decide)
      (evaluate_demandWf old (demandsApart_of_demandWf h))
  · exact h
  · exact demandWf_of_sameBut (((sameBut_andIf (fun u => u.onPlant_sequencer_changes _ rfl) _ _).mono
      (b := [.sequencer, .plantFlight]) (by decide)).trans ((plantTrigger_changes _).mono (by decide)))
      (by decide) h
  · exact demandWf_of_sameBut s.plantTrigger_changes (by decide) h

/-- A SETPOINT's figures are in range, and the demands are formed from them (R36 to R40). -/
theorem applySetpoint_wf (f : Frame) (h : s.SetpointsWf) (hd : s.DemandWf) :
    (s.applySetpoint f).SetpointsWf ∧ (s.applySetpoint f).DemandWf := by
  have answered (u : State) (dest : Nat) (body : List Byte) (hu : u.SetpointsWf) (hud : u.DemandWf) :
      (u.placeReply .setpointReply dest body .plain).1.SetpointsWf ∧
        (u.placeReply .setpointReply dest body .plain).1.DemandWf :=
    ⟨setpointsWf_of_sameBut (u.placeReply_changes _ _ _ _) (by decide) (by decide) hu,
      demandWf_of_sameBut (u.placeReply_changes _ _ _ _) (by decide) hud⟩
  unfold applySetpoint
  split
  · extract_lets w kept s1 s2
    have stored : s1.SetpointsWf := by
      obtain ⟨product, figures, home⟩ := h
      have limits := product
      obtain ⟨-, -, -, -, -, -, -, -, -, -, -, -, -, ⟨span, -⟩, -⟩ := limits
      exact ⟨product, Setpoints.work_wf _ _ _ figures home span, home⟩
    have worked : s2.SetpointsWf :=
      setpointsWf_of_sameBut (s1.recompute_changes s) (by decide) (by decide) stored
    have demand : s2.DemandWf := recompute_demandWf s stored
    split_ifs
    · exact answered _ _ _ worked demand
    · exact ⟨worked, demand⟩
  · split_ifs
    · exact answered _ _ _ h hd
    · exact ⟨h, hd⟩

theorem setpointsWf_released (role : Role) (a : Nat) (x y : Level) :
    (released role a x y).SetpointsWf := ⟨productWf_defaults, figures_defaults_wf, figures_defaults_wf⟩

theorem demandWf_released (role : Role) (a : Nat) (x y : Level) : (released role a x y).DemandWf :=
  ⟨Nat.zero_le _, Nat.zero_le _, Nat.zero_le _, rfl, fun h => absurd rfl h, .inl rfl⟩

theorem sensingWf_released (role : Role) (a : Nat) (x y : Level) : (released role a x y).SensingWf :=
  ⟨fun _ => ⟨Channel.wf_reset _ _, Channel.wf_reset _ _⟩,
    fun _ => ⟨Channel.wf_reset _ _, Channel.wf_reset _ _⟩⟩

end State

open State in
theorem exec_setpointsDemandWf (c : Instr) (s t : State) (h : s.SetpointsWf ∧ s.DemandWf)
    (hexec : exec c s = .next t) : t.SetpointsWf ∧ t.DemandWf := by
  by_cases spared : ∃ a, touches c = some a ∧ .fixed ∉ a ∧ .setpoints ∉ a ∧ .demand ∉ a
  · obtain ⟨a, ha, hf, hs, hd⟩ := spared
    exact ⟨setpointsWf_of_sameBut (exec_changes ha hexec) hf hs h.1,
      demandWf_of_sameBut (exec_changes ha hexec) hd h.2⟩
  have setpoints {a : List Item} (ha : touches c = some a) (hf : .fixed ∉ a) (hs : .setpoints ∉ a) :
      t.SetpointsWf := setpointsWf_of_sameBut (exec_changes ha hexec) hf hs h.1
  cases c <;> try exact absurd ⟨_, rfl, by decide, by decide, by decide⟩ spared
  all_goals obtain rfl := Host.Outcome.next.inj hexec
  case reset role a x y => exact ⟨setpointsWf_released role a.toNat x y, demandWf_released role a.toNat x y⟩
  case resetAsserted =>
    exact ⟨setpointsWf_released s.role s.address .opened .opened,
      demandWf_released s.role s.address .opened .opened⟩
  case startEnd image =>
    refine takeExpiry_keeps (P := fun u => u.SetpointsWf ∧ u.DemandWf) h fun d _ =>
      andIf_keeps_of (P := fun u => u.SetpointsWf ∧ u.DemandWf) h fun _ => ⟨?_, ?_⟩
    · have product := productWf_load s.role image
      have taken : ((s.reach d).configured (load s.role image)).takeProduct.SetpointsWf := by
        refine setpointsWf_of_sameBut (sameBut_of_drives (handTarget_frame _ _)) (by decide)
          (by decide) ?_
        exact ⟨product, homeFigures_wf product, homeFigures_wf product⟩
      exact setpointsWf_of_sameBut ((s.reach d).endStart_rest_changes image) (by decide) (by decide)
        taken
    · exact demandWf_of_sameBut ((s.reach d).endStart_changes image) (by decide) h.2
  case setpoint =>
    refine takeFrame_keeps (P := fun u => u.SetpointsWf ∧ u.DemandWf) (fun u _ hu => hu)
      (fun f u _ hu => ?_) s h
    obtain ⟨stored, demand⟩ := applySetpoint_wf f hu.1 hu.2
    exact ⟨setpointsWf_of_sameBut (judgeSource_changes _ f) (by decide) (by decide) stored,
      demandWf_of_sameBut (judgeSource_changes _ f) (by decide) demand⟩
  case sampleTimerExpiry x y =>
    refine ⟨setpoints rfl (by decide) (by decide), ?_⟩
    exact takeExpiry_keeps h.2 fun d _ => handOver_demandWf _ h.1 h.2
  case debounceExpiry k =>
    refine ⟨setpoints rfl (by decide) (by decide), ?_⟩
    exact takeExpiry_keeps h.2 fun d _ => contactChanged_demandWf _ k
      (demandWf_of_sameBut (onContact_changes _ k _) (by decide) h.2)

open State in
theorem exec_sensingWf (c : Instr) (s t : State) (h : s.SensingWf) (hexec : exec c s = .next t) :
    t.SensingWf := by
  by_cases spared : ∃ a, touches c = some a ∧ .fixed ∉ a ∧ .channels ∉ a
  · obtain ⟨a, ha, hf, hc⟩ := spared
    exact sensingWf_of_sameBut (exec_changes ha hexec) hf hc h
  cases c <;> try exact absurd ⟨_, rfl, by decide, by decide⟩ spared
  all_goals obtain rfl := Host.Outcome.next.inj hexec
  case reset role a x y => exact sensingWf_released role a.toNat x y
  case resetAsserted => exact sensingWf_released s.role s.address .opened .opened
  case startEnd image =>
    refine takeExpiry_keeps h fun d _ => andIf_keeps_of (P := SensingWf) h fun _ => ?_
    refine sensingWf_of_sameBut ((s.reach d).endStart_rest_changes image) (by decide) (by decide) ?_
    exact sensingWf_of_sameBut (takeProduct_changes _) (by decide) (by decide)
      (s := (s.reach d).configured _) h
  case sampleTimerExpiry x y =>
    refine takeExpiry_keeps h fun d _ => ?_
    refine sensingWf_of_sameBut (handOver_changes _ _) (by decide) (by decide) ?_
    exact sampleChannels_sensingWf (s := (s.reach d).onSensing _) x y h

/-- Settles O56: the demands are formed from figures 20 apart, and the wanted mode stands on its own
figure; a sample moves a channel only within its raw range. -/
theorem everyStepKeepsSensingSetpointsAndDemand :
    Obligations.EveryStepKeepsSensingSetpointsAndDemand := by
  refine ⟨fun s t setpoints demand hstep => ?_, ?_, ?_⟩
  · exact step_keeps (P := fun u => u.SetpointsWf ∧ u.DemandWf) (fun _ _ _ h => h)
      exec_setpointsDemandWf s t ⟨setpoints, demand⟩ hstep
  · exact step_keeps (fun _ _ _ h => h) exec_sensingWf
  · exact step_keeps (P := fun u => u.address ≤ 63) (fun _ _ _ h => h) exec_address

end Sys2Proof.Machine
end

section
/-! PROOF. The part as a whole: the step, the resets, and the alert line (R183, R184). -/

namespace Sys2Proof.Machine

/-- Settles O1: by the two branches of the step. -/
theorem stepRunsTheFrontCommand : Obligations.StepRunsTheFrontCommand := by
  refine ⟨fun s c rest h => ?_, fun s h => ?_⟩
  · unfold step
    rw [h]
  · have ticks : step s = .next s.tick := by
      unfold step
      rw [h]
    rw [ticks]
    unfold State.tick
    split_ifs <;> rfl

/-- Settles O2: the state that RESET gives is written out in the model. -/
theorem resetGivesTheResetState : Obligations.ResetGivesTheResetState := by
  intro s role a x y
  exact ⟨_, rfl, by simp [State.released, Membership.reset, Channel.reset, ShareRecord.reset, Drive.reset,
    Arbitration.reset, Air.reset, Protection.reset, Line.reset, Config.defaults, Config.startMs,
    Config.minOffMs]⟩

/-- A held part takes no event (R184). -/
theorem exec_held {s : State} {c : Instr} (h : s.held = true)
    (hr : ∀ role a x y, c ≠ .reset role a x y) (ha : c ≠ .resetAsserted) : exec c s = .next s := by
  have takes (act : State → State) : Host.Outcome.next (s.take act) = (.next s : Outcome) :=
    congrArg _ (s.take_held act h)
  have expires (r : Timer) (act : State → State) :
      Host.Outcome.next (s.takeExpiry r act) = (.next s : Outcome) := takes _
  have frames (named : Frame → Bool) (act : Frame → State → State) :
      Host.Outcome.next (s.takeFrame named act) = (.next s : Outcome) := takes _
  have guarded (b : Bool) (r : Timer) (act : State → State) :
      Host.Outcome.next (s.andIf b fun u => u.takeExpiry r act) = (.next s : Outcome) := by
    cases b
    · rfl
    · exact expires r act
  cases c
  case reset role a x y => exact absurd rfl (hr role a x y)
  case resetAsserted => exact absurd rfl ha
  case announcePeriodExpiry | spacingExpiry | statusPeriodExpiry | statusSpacingExpiry | minOffExpiry =>
    exact guarded _ _ _
  case announce | plantStatus | rollCall | present | setpoint | setpointReply | result
      | unknownKindFrame | peer | status | share | plant | dump | clear | rehome | hold | restart =>
    exact frames _ _
  all_goals exact takes _

/-- Settles O3: the held part stands as a reset leaves it, and every other command asks first whether
it is held. -/
theorem resetAssertedHoldsThePart : Obligations.ResetAssertedHoldsThePart :=
  ⟨fun _ => ⟨_, rfl, rfl, rfl, rfl, rfl, rfl, rfl, rfl, rfl, rfl, rfl, rfl⟩,
    fun _ _ h hr ha => exec_held h hr ha⟩

/-! ### The alert line -/

theorem freshPlants_isEmpty_iff (table : List Entry) : (freshPlants table).isEmpty = true ↔
    ∀ e ∈ table, e.standing = .fresh → e.role = .zone := by
  have roles (r : Role) : r = .zone ↔ r ≠ .plant := by cases r <;> decide
  simp [freshPlants, Entry.freshPlant_isSome, roles]

theorem freshPlants_length (table : List Entry) : (freshPlants table).length =
    (table.filter fun e => e.standing == .fresh && e.role == .plant).length := by
  simp [freshPlants, Entry.freshPlant_isSome]

theorem State.twoPlants_iff (s : State) : s.twoPlants = true ↔
    (if s.role = .zone then 2 else 1) ≤ (freshPlants s.member.table).length := by
  unfold twoPlants
  cases s.role <;> simp

/-- Settles O46: the eight conditions one by one. -/
theorem alertLineFollowsItsConditions : Obligations.AlertLineFollowsItsConditions := by
  intro s
  have silent : s.plantSilent = true ↔ s.role = .zone ∧ s.member.station ≠ .start ∧
      ∀ e ∈ s.member.table, e.standing = .fresh → e.role = .zone := by
    unfold State.plantSilent
    rw [Bool.and_eq_true, Bool.and_eq_true, freshPlants_isEmpty_iff]
    simp [and_assoc]
  have two := s.twoPlants_iff
  rw [freshPlants_length] at two
  have started : (s.member.station != .start) = true ↔ s.member.station ≠ .start := bne_iff_ne
  unfold State.alertDriven
  rw [Bool.and_eq_true, Bool.and_eq_true, started, Bool.not_eq_true', and_assoc]
  refine and_congr_right fun _ => and_congr_right fun running => ?_
  simp only [State.alertConditions, List.zipIdx_cons, List.zipIdx_nil, List.any_cons, List.any_nil,
    Bool.and_eq_true, Bool.or_eq_true, beq_iff_eq, silent, two, Bool.or_false, ne_eq, running,
    not_false_eq_true, true_and, and_comm (b := s.cfg.alertMask.getLsbD _ = true), Nat.zero_add]

/-! ### The state after reset -/

theorem State.tableWf_released (role : Role) (a : Nat) (x y : Level) :
    (released role a x y).TableWf :=
  ⟨⟨Nat.zero_le _, List.nodup_nil, List.Pairwise.nil, fun _ h => (List.not_mem_nil h).elim⟩,
    fun _ h => (Option.not_mem_none _ h).elim⟩

/-- Settles O60: block by block. -/
theorem resetStateIsCoherent : Obligations.ResetStateIsCoherent := by
  refine ⟨Nat.zero_le _, State.tableWf_released _ _ _ _, ?_, State.stationWf_released _ _ _ _,
    State.lineWf_released _ _ _ _, State.sensingWf_released _ _ _ _, State.setpointsWf_released _ _ _ _,
    State.demandWf_released _ _ _ _, State.driveWf_released _ _ _ _, ?_⟩
  · decide
  · exact ⟨by decide, by decide, by decide, fun _ => rfl, fun _ => ⟨rfl, rfl⟩,
      fun _ h => (Option.not_mem_none _ h).elim⟩

end Sys2Proof.Machine
end

section
/-! PROOF. The share formulas: the sums stay within the blower airflow, the lookup follows its table, and
each position follows its airflow (04, sections 4.2 to 4.7). -/

namespace Sys2Proof.Machine

/-! ### Sums over counted zones -/

section
variable {α : Type} (xs : List α)

theorem sum_map_le_sum_map {f g : α → Nat} (h : ∀ x ∈ xs, f x ≤ g x) :
    (xs.map f).sum ≤ (xs.map g).sum := by
  induction xs with
  | nil => rfl
  | cons x xs ih =>
    simp only [List.map_cons, List.sum_cons]
    exact Nat.add_le_add (h x (by simp)) (ih fun y hy => h y (List.mem_cons_of_mem x hy))

theorem sum_map_add (f g : α → Nat) :
    (xs.map fun x => f x + g x).sum = (xs.map f).sum + (xs.map g).sum := by
  induction xs with
  | nil => rfl
  | cons x xs ih =>
    simp only [List.map_cons, List.sum_cons, ih]
    omega

/-- Parts of q in proportion to f, each rounded down, together stay within q. -/
theorem sum_parts_le (f : α → Nat) (q d : Nat) :
    (xs.map fun x => q * f x / d).sum ≤ q * (xs.map f).sum / d := by
  induction xs with
  | nil => simp
  | cons x xs ih =>
    simp only [List.map_cons, List.sum_cons, Nat.mul_add]
    exact (Nat.add_le_add_left ih _).trans Nat.div_add_div_le_add_div

theorem sum_filter_eq (p : α → Bool) (f : α → Nat) :
    ((xs.filter p).map f).sum = (xs.map fun x => if p x then f x else 0).sum := by
  induction xs with
  | nil => rfl
  | cons x xs ih =>
    by_cases h : p x <;> simp [h, ih]

theorem le_sum_of_mem {f : α → Nat} {x : α} (h : x ∈ xs) : f x ≤ (xs.map f).sum :=
  List.single_le_sum (fun _ _ => Nat.zero_le _) _ (List.mem_map_of_mem h)

end

/-! ### The law of the shares (R72, R73, R75, R81) -/

theorem part_le_whole {q d : Nat} : q * d / d ≤ q := by
  rcases Nat.eq_zero_or_pos d with rfl | h
  · simp
  · rw [Nat.mul_div_cancel _ h]

/-- The scaled claims use the claims up to the blower's airflow (R72). -/
theorem sum_scaled_le (mode : PlantMode) (qb : Nat) (zones : List Counted) :
    (zones.map (termsOf mode qb zones).scaled).sum ≤ min (termsOf mode qb zones).claims qb := by
  show (zones.map fun z => scaledClaim qb (sumOver zones (claim mode)) (claim mode z)).sum ≤
    min (sumOver zones (claim mode)) qb
  unfold scaledClaim
  by_cases h : qb < sumOver zones (claim mode)
  · simp only [h, if_true, Nat.mul_comm _ qb]
    have parts := (sum_parts_le zones (claim mode) qb (sumOver zones (claim mode))).trans part_le_whole
    omega
  · simp only [h, if_false]
    exact le_min le_rfl (not_lt.mp h)

theorem reliefShare_le (mode : PlantMode) (pool reliefSum : Nat) (z : Counted) :
    reliefShare mode pool reliefSum z ≤
      if reliefSum ≤ pool then reliefOf mode z else pool * reliefOf mode z / reliefSum := by
  unfold reliefShare reliefOf
  by_cases h : inRelief mode z
  · simp only [h, Bool.not_true, Bool.false_or, beq_iff_eq, if_true]
    by_cases empty : pool = 0
    · rw [if_pos empty]
      exact Nat.zero_le _
    · rw [if_neg empty]
  · simp [h]

/-- The relief shares stay within the pool (R75). -/
theorem sum_relief_le (mode : PlantMode) (qb : Nat) (zones : List Counted) :
    (zones.map (termsOf mode qb zones).relief).sum ≤ (termsOf mode qb zones).pool := by
  have each := sum_map_le_sum_map zones (f := (termsOf mode qb zones).relief) fun z _ =>
    reliefShare_le mode (termsOf mode qb zones).pool (termsOf mode qb zones).reliefSum z
  refine each.trans ?_
  by_cases h : (termsOf mode qb zones).reliefSum ≤ (termsOf mode qb zones).pool
  · simp only [h, if_true]
    exact h
  · simp only [h, if_false]
    exact (sum_parts_le zones (reliefOf mode) _ _).trans part_le_whole

/-- Settles O35: the claims take at most the blower's airflow, the relief at most what they leave. -/
theorem sharesNeverExceedTheBlower : Obligations.SharesNeverExceedTheBlower := by
  intro mode qb zones
  have claims := sum_scaled_le mode qb zones
  have relief := sum_relief_le mode qb zones
  have left : (termsOf mode qb zones).pool = qb - min (termsOf mode qb zones).claims qb := rfl
  have together : (zones.map (termsOf mode qb zones).scaled).sum +
      (zones.map (termsOf mode qb zones).relief).sum ≤ qb := by omega
  refine ⟨together, le_trans ?_ together⟩
  rw [← sum_map_add]
  exact sum_map_le_sum_map zones fun z _ => Nat.min_le_right _ _

/-! ### The lookup (R77) -/

section
variable {table : List Nat}

theorem getD_le_getD (length : table.length = 9) (rises : table.Pairwise (· ≤ ·)) {i j : Nat}
    (hij : i ≤ j) (hj : j ≤ 8) : table.getD i 0 ≤ table.getD j 0 := by
  rw [List.getD_eq_getElem _ _ (by omega), List.getD_eq_getElem _ _ (by omega)]
  rcases Nat.lt_or_eq_of_le hij with h | rfl
  · exact List.pairwise_iff_getElem.mp rises i j (by omega) (by omega) h
  · exact le_rfl

/-- The lookup in the interval k of the table, m permille beyond its lower end. -/
theorem lookup_interval {k m : Nat} (hk : k ≤ 7) (hm : m < 125 ∨ (k = 7 ∧ m = 125)) :
    lookup table (125 * k + m) =
      table.getD k 0 + (table.getD (k + 1) 0 - table.getD k 0) * m / 125 := by
  have interval : min 7 ((125 * k + m) / 125) = k := by omega
  have rest : 125 * k + m - 125 * k = m := by omega
  unfold lookup
  simp only [interval, rest]

/-- A fraction up to 1000 stands in one of the eight intervals. -/
theorem interval_of_fraction {f : Nat} (h : f ≤ 1000) :
    ∃ k m, f = 125 * k + m ∧ k ≤ 7 ∧ (m < 125 ∨ (k = 7 ∧ m = 125)) :=
  ⟨min 7 (f / 125), f - 125 * min 7 (f / 125), by omega, by omega, by omega⟩

theorem part_mono (d : Nat) {m n : Nat} (h : m ≤ n) : d * m / 125 ≤ d * n / 125 :=
  Nat.div_le_div_right (Nat.mul_le_mul_left d h)

/-- Within one interval the lookup rises with the fraction; from one to the next it passes the entry
between them. -/
theorem lookup_mono (length : table.length = 9) (rises : table.Pairwise (· ≤ ·)) {f g : Nat}
    (hfg : f ≤ g) (hg : g ≤ 1000) : lookup table f ≤ lookup table g := by
  obtain ⟨k, m, rfl, hk, hm⟩ := interval_of_fraction (hfg.trans hg)
  obtain ⟨j, n, rfl, hj, hn⟩ := interval_of_fraction hg
  rw [lookup_interval hk hm, lookup_interval hj hn]
  rcases Nat.lt_trichotomy k j with h | rfl | h
  · have step := getD_le_getD length rises (i := k) (j := k + 1) (by omega) (by omega)
    have next := getD_le_getD length rises (show k + 1 ≤ j from h) (by omega)
    have part := part_mono (table.getD (k + 1) 0 - table.getD k 0) (show m ≤ 125 by omega)
    rw [Nat.mul_div_cancel _ (by decide)] at part
    omega
  · exact Nat.add_le_add_left (part_mono _ (by omega)) _
  · omega

/-- Settles O36: at an interval's end the lookup is the table's entry, and it rises in between. -/
theorem lookupFollowsTheTable : Obligations.LookupFollowsTheTable := by
  intro table length rises
  refine ⟨fun k hk => ?_, fun f g => lookup_mono length rises⟩
  have entry : table[k]? = some (table.getD k 0) := by
    rw [List.getD_eq_getElem _ _ (by omega), List.getElem?_eq_getElem]
  rw [entry]
  rcases Nat.lt_or_eq_of_le hk with h | rfl
  · have at_k := lookup_interval (table := table) (k := k) (m := 0) (by omega) (.inl (by decide))
    simpa using at_k
  · have last := lookup_interval (table := table) (k := 7) (m := 125) le_rfl (.inr ⟨rfl, rfl⟩)
    have step := getD_le_getD length rises (i := 7) (j := 8) (by decide) le_rfl
    rw [Nat.mul_div_cancel _ (by decide), Nat.add_sub_cancel' step] at last
    exact congrArg some last

end

/-! ### The terms of the statements are the model's -/

theorem servesWanted_eq_served (mode : PlantMode) (w : WantedMode) :
    servesWanted mode w = served mode w := by
  cases mode <;> cases w <;> rfl

theorem claimUnder_eq_claim (mode : PlantMode) : claimUnder mode = claim mode := by
  funext z
  simp [claimUnder, claim, servesWanted_eq_served, ceilDiv]

theorem relievedUnder_eq_inRelief (mode : PlantMode) : relievedUnder mode = inRelief mode := by
  funext z
  rw [Bool.eq_iff_iff]
  simp [relievedUnder, inRelief, servesWanted_eq_served, and_assoc]

theorem countedZones_eq_freshZones (entries : List Entry) : countedZones entries = freshZones entries :=
  List.map_filterMap

theorem served_iff (mode : PlantMode) (w : WantedMode) : served mode w = true ↔
    (mode = .heat ∧ w = .heat) ∨ ((mode = .cool ∨ mode = .dry) ∧ (w = .cool ∨ w = .dry)) := by
  cases mode <;> cases w <;> decide

/-- The figures of a formula case over its zones hold the sums of those zones (R70 to R74). -/
theorem sumsOver_figures (mode : PlantMode) (qb : Nat) (zones : List Counted) (r : RoleShare) :
    sumsOver mode zones ((termsOf mode qb zones).figures zones.length r) := by
  refine ⟨rfl, ?_, ?_, rfl⟩
  · rw [claimUnder_eq_claim]
    rfl
  · rw [relievedUnder_eq_inRelief, sum_filter_eq]
    rfl

/-- The relief share of a counted zone (R75). -/
theorem relief_of_mem (mode : PlantMode) (qb : Nat) {zones : List Counted} {z : Counted} (hz : z ∈ zones) :
    (termsOf mode qb zones).relief z =
      if inRelief mode z then
        if (termsOf mode qb zones).reliefSum ≤ (termsOf mode qb zones).pool then z.relief
        else (termsOf mode qb zones).pool * z.relief / (termsOf mode qb zones).reliefSum
      else 0 := by
  show reliefShare mode _ _ z = _
  unfold reliefShare
  by_cases relieved : inRelief mode z = true
  · have own : reliefOf mode z ≤ (termsOf mode qb zones).reliefSum := le_sum_of_mem zones hz
    have pos : 0 < z.relief := by
      simp only [inRelief, Bool.and_eq_true, decide_eq_true_eq] at relieved
      omega
    rw [reliefOf, if_pos relieved] at own
    simp only [relieved, Bool.not_true, Bool.false_or, beq_iff_eq, if_true]
    by_cases empty : (termsOf mode qb zones).pool = 0
    · rw [if_pos empty, if_neg (by omega), empty, Nat.zero_mul, Nat.zero_div]
    · rw [if_neg empty]
  · simp [relieved]

/-- The airflow of a counted zone (R72, R75, R76). -/
theorem airflowUnder_eq_target (mode : PlantMode) (qb n : Nat) (r : RoleShare) {zones : List Counted}
    {z : Counted} (hz : z ∈ zones) :
    airflowUnder mode ((termsOf mode qb zones).figures n r) z = (termsOf mode qb zones).target z := by
  unfold airflowUnder Terms.target
  rw [relief_of_mem mode qb hz, relievedUnder_eq_inRelief, claimUnder_eq_claim]
  rfl

/-! ### The formula cases (R69 to R82) -/

section
variable {c : Config.Product} {s : ShareSnapshot} {r : PlantRecord}

/-- A plant that runs or pauses gives the formula case of either role (R66, R67). -/
theorem shareOutcome_formulas (c : Config.Product) (online : s.online = true)
    (silent : s.silent = false) (source : s.source = some r)
    (mode : r.mode = .heat ∨ r.mode = .cool ∨ r.mode = .dry ∨ r.mode = .changeover)
    (defrost : r.phases.defrost = false) :
    shareOutcome .zone c s = zoneFormulas c s r ∧ shareOutcome .plant c s = plantFormulas c s r := by
  have notIdle : (r.mode == .idle) = false := by rcases mode with h | h | h | h <;> rw [h] <;> rfl
  have notLockout : (r.mode == .lockout) = false := by rcases mode with h | h | h | h <;> rw [h] <;> rfl
  constructor <;> simp [shareOutcome, online, silent, source, notIdle, notLockout, defrost]

theorem claim_changeover (z : Counted) : claim .changeover z = 0 := by
  simp [claim, served]

theorem sumOver_claim_changeover (zones : List Counted) : sumOver zones (claim .changeover) = 0 := by
  rw [sumOver, show claim .changeover = fun _ => 0 from funext claim_changeover]
  simp

/-- A zone's position by its target airflow (R78). -/
theorem zonePosition_closed (c : Config.Product) (served : Bool) (fraction : Nat) :
    zonePosition c served 0 fraction = (.closed, c.posMin) := rfl

theorem zonePosition_open (c : Config.Product) (served : Bool) {target : Nat} (h : target ≠ 0)
    (fraction : Nat) : zonePosition c served target fraction =
      (if served then .served else .relief, max c.posMin (lookup c.table fraction)) := by
  simp [zonePosition, h]

/-- The bypass by its three cases (R82). -/
theorem bypassTarget_none {c : Config.Product} (h : c.qbp = 0) (u : Nat) :
    bypassTarget c u = (none, 0) := by simp [bypassTarget, h]

theorem bypassTarget_shut {c : Config.Product} (h : c.qbp ≠ 0) : bypassTarget c 0 = (some 0, 0) := by
  simp [bypassTarget, h]

theorem bypassTarget_open {c : Config.Product} (h : c.qbp ≠ 0) {u : Nat} (hu : u ≠ 0) :
    bypassTarget c u = (some (fractionOf u c.qbp), lookup c.table (fractionOf u c.qbp)) := by
  simp [bypassTarget, h, hu]

end

/-- Settles O37: the outcome is the role's formula record, whose fields are the terms of the statement. -/
theorem positionsFollowTheirAirflow : Obligations.PositionsFollowTheirAirflow := by
  constructor
  · intro c s r online silent source mode defrost
    rw [(shareOutcome_formulas c online silent source mode defrost).1]
    let zones := s.own.counted :: freshZones s.entries
    let t := termsOf r.mode r.qb zones
    have mem : s.own.counted ∈ zones := List.mem_cons_self
    have counted : countedZones s.entries = freshZones s.entries := countedZones_eq_freshZones _
    refine ⟨_, _, rfl, rfl, rfl, rfl, ?sums, ?airflow, served_iff _ _, ?claim, rfl, ?relief, rfl, rfl,
      ?closed, ?opened, ?changeover⟩
    case sums =>
      rw [counted]
      exact sumsOver_figures r.mode r.qb zones _
    case airflow => exact (airflowUnder_eq_target r.mode r.qb _ _ mem).symm
    case claim =>
      show claim r.mode s.own.counted = _
      rw [← claimUnder_eq_claim]
      simp only [claimUnder, servesWanted_eq_served]
      rfl
    case relief =>
      refine (relief_of_mem r.mode r.qb mem).trans ?_
      rw [← relievedUnder_eq_inRelief]
      simp only [relievedUnder, servesWanted_eq_served, decide_eq_true_eq]
      rfl
    case closed =>
      intro h
      replace h : t.target s.own.counted = 0 := h
      have shut := zonePosition_closed c (served r.mode s.own.wanted)
        (fractionOf (t.target s.own.counted) s.own.qd)
      rw [← h] at shut
      exact ⟨congrArg Prod.fst shut, congrArg some (congrArg Prod.snd shut)⟩
    case opened =>
      intro h
      have stands := zonePosition_open c (served r.mode s.own.wanted) h
        (fractionOf (t.target s.own.counted) s.own.qd)
      exact ⟨congrArg Prod.fst stands, congrArg some (congrArg Prod.snd stands)⟩
    case changeover =>
      intro h
      have none : t.claims = 0 := by
        show sumOver zones (claim r.mode) = 0
        rw [h, sumOver_claim_changeover]
      refine ⟨none, ?_⟩
      show r.qb - min t.claims r.qb = r.qb
      omega
  · intro c s r online silent source mode defrost
    rw [(shareOutcome_formulas c online silent source mode defrost).2]
    let zones := freshZones s.entries
    let t := termsOf r.mode r.qb zones
    let u := r.qb - sumOver zones t.delivered
    have counted : countedZones s.entries = zones := countedZones_eq_freshZones _
    have within : sumOver zones t.delivered ≤ r.qb := (sharesNeverExceedTheBlower r.mode r.qb zones).2
    refine ⟨_, _, _, rfl, rfl, rfl, Nat.add_sub_cancel' within, rfl, ?sums, ?delivered, ?none, ?shut,
      ?opened, ?case⟩
    case sums =>
      rw [counted]
      exact sumsOver_figures r.mode r.qb zones _
    case delivered =>
      rw [counted]
      refine congrArg List.sum (List.map_congr_left fun z hz => ?_)
      exact congrArg _ (airflowUnder_eq_target r.mode r.qb _ _ hz).symm
    case none =>
      intro h
      have bypass := bypassTarget_none h u
      exact ⟨congrArg Prod.snd bypass, congrArg Prod.fst bypass⟩
    case shut =>
      intro h hu
      replace hu : u = 0 := hu
      have bypass := bypassTarget_shut h
      rw [← hu] at bypass
      refine ⟨(congrArg Prod.snd bypass).trans hu, (congrArg Prod.fst bypass).trans (congrArg some hu)⟩
    case opened =>
      intro h hu
      have bypass := bypassTarget_open h (u := u) hu
      exact ⟨congrArg Prod.fst bypass, congrArg Prod.snd bypass⟩
    case case => simp only [plantFormulas, beq_iff_eq]

end Sys2Proof.Machine
end

section
/-! PROOF. What placing a frame does to the line, and how a frame reaches the block it is for (R8, R13,
R164, R165, R173). -/

namespace Sys2Proof.Machine

namespace State
variable {s : State} {f : Frame} {rest : List Frame}

/-! ### Placing (R165, R167) -/

/-- Placing an entry moves the line alone: the entry stands last, and a wait period may begin. -/
theorem placeEntry_line (s : State) (e : TxEntry) : (s.placeEntry e).line =
    { s.line with
      queue := s.line.queue ++ [e], wait := (s.placeEntry e).line.wait
      sequence := (s.placeEntry e).line.sequence } := by
  unfold placeEntry
  extract_lets placed
  split_ifs
  · exact placed.beginWait_line
  · rfl

theorem placeEntry_eq (s : State) (e : TxEntry) :
    s.placeEntry e = { s with line := (s.placeEntry e).line } := by
  obtain ⟨l, h⟩ := s.placeEntry_frame e
  rw [h]

theorem placeReply_eq (s : State) (k : TxKind) (dest : Nat) (body : List Byte) (use : ResultUse) :
    (s.placeReply k dest body use).1 = { s with line := (s.placeReply k dest body use).1.line } := by
  obtain ⟨l, h⟩ := s.placeReply_frame k dest body use
  rw [h]

theorem placeReply_of_room {k : TxKind} (allowed : s.member.station.allows k = true)
    (room : s.line.replies < 3) (dest : Nat) (body : List Byte) (use : ResultUse) :
    s.placeReply k dest body use = (s.placeEntry
      { kind := k, dest, body := some body, lost := 0, inFlight := false, use }, true) := by
  unfold placeReply
  rw [if_neg (by simp [allowed]), if_neg (by simpa [Line.replies] using room)]

/-- A reply beyond the three held is dropped with latch and counter. -/
theorem placeReply_of_full {k : TxKind} (allowed : s.member.station.allows k = true)
    (full : 3 ≤ s.line.replies) (dest : Nat) (body : List Byte) (use : ResultUse) :
    s.placeReply k dest body use = ({ s with line := s.line.dropped }, false) := by
  unfold placeReply
  rw [if_neg (by simp [allowed]), if_pos (by simpa [Line.replies] using full)]
  rfl

theorem placeReply_of_refused {k : TxKind} (refused : s.member.station.allows k = false)
    (dest : Nat) (body : List Byte) (use : ResultUse) :
    s.placeReply k dest body use = (s, false) := by
  unfold placeReply
  rw [if_pos (by simp [refused])]

/-! ### The frame handler (R164) -/

/-- In START a frame is discarded as it is taken (R1). -/
theorem takeFrame_start (h : s.atFront f rest) (hs : s.member.station = .start)
    {named : Frame → Bool} (hn : named f = true) (act : Frame → State → State) :
    s.takeFrame named act = s.taken rest := by
  simp [takeFrame, s.take_running _ h.running, h.free, h.front, hn, hs, taken, onLine]

/-- A source that is not the own address is no evidence (R164). -/
theorem fromOwn_eq_false (h : f.src.toNat ≠ s.address ∨ f.src.toNat = 0) : s.fromOwn f = false := by
  rcases h with h | h <;> simp [fromOwn, h]

theorem judgeSource_other (h : f.src.toNat ≠ s.address ∨ f.src.toNat = 0) : s.judgeSource f = s := by
  unfold judgeSource
  rw [fromOwn_eq_false h]
  rfl

theorem fromOwn_eq_true (h : f.src.toNat = s.address) (ha : s.address ≠ 0) : s.fromOwn f = true := by
  simp [fromOwn, h, ha]

end State

/-- Every frame command is the frame handler's, for the frames it names. -/
theorem exec_takesFrame {c : Instr} {f : Frame} (h : takesFrame c f = true) :
    ∃ (named : Frame → Bool) (act : Frame → State → State), named f = true ∧
      ∀ s : State, exec c s = .next (s.takeFrame named act) := by
  cases c
  case announce | plantStatus | rollCall | present | setpoint | setpointReply | result
      | unknownKindFrame | peer | status | share | plant | dump | clear | rehome | hold | restart =>
    exact ⟨_, _, h, fun _ => rfl⟩
  all_goals exact Bool.noConfusion h

open State in
/-- Settles O14: the handler's three cases of a frame to table. -/
theorem tablingWaitsForASnapshot : Obligations.TablingWaitsForASnapshot := by
  intro c f rest s front started kind
  have handed : exec c s = .next ((s.taken rest).handRecord f) := by
    rcases kind with ⟨rfl, hk⟩ | ⟨rfl, hk⟩ <;>
      exact congrArg Host.Outcome.next (takeFrame_atFront front started hk _)
  refine ⟨fun zero => ?_, fun foreign other occupied => ?_⟩
  · rw [handed]
    simp [handRecord, zero]
  · rw [handed]
    have busy : (s.taken rest).occupied = true := occupied
    simp [handRecord, fromOwn, foreign, other, busy, onLine]

open State in
/-- Settles O17: the PRESENT is placed as any reply is. -/
theorem rollCallIsAnsweredInOnline : Obligations.RollCallIsAnsweredInOnline := by
  intro f rest s front kind own addressed online
  have answered : exec .rollCall s = .next (s.taken rest).answerRollCall := by
    have heard : (s.taken rest).heardRollCall f = (s.taken rest).answerRollCall := by
      unfold heardRollCall
      rw [if_pos (fromOwn_eq_true (s := s.taken rest) own addressed), if_pos (by simp [online])]
    refine congrArg Host.Outcome.next ?_
    rw [← heard]
    exact takeFrame_atFront front (by simp [online]) kind _
  have allowed : (s.taken rest).member.station.allows .present = true := by
    show s.member.station.allows _ = true
    rw [online]
    rfl
  refine ⟨_, answered, ?_, fun room => ?_, fun full => ?_⟩
  · exact placeReply_eq _ _ _ _ _
  · unfold answerRollCall
    rw [placeReply_of_room allowed room]
    exact placeEntry_line _ _
  · unfold answerRollCall
    rw [placeReply_of_full allowed full]

open State in
/-- Settles O18: the handler takes the frame, and its block has no use for it. -/
theorem otherFramesAreDiscarded : Obligations.OtherFramesAreDiscarded := by
  have inStart : ∀ (c : Instr) (f : Frame) (rest : List Frame) (s : State), s.atFront f rest →
      takesFrame c f = true → s.member.station = .start → exec c s = .next (s.taken rest) := by
    intro c f rest s front takes start
    obtain ⟨named, act, hn, hexec⟩ := exec_takesFrame takes
    rw [hexec, takeFrame_start front start hn]
  refine ⟨fun c f rest s front takes kinds other => ?_, fun f rest s front unknown started => ?_, inStart⟩
  · by_cases start : s.member.station = .start
    · exact inStart c f rest s front takes start
    have judged : (s.taken rest).judgeSource f = s.taken rest := judgeSource_other other
    have rollCall : (s.taken rest).heardRollCall f = s.taken rest := by
      unfold heardRollCall
      rw [if_neg]
      rw [fromOwn_eq_false (s := s.taken rest) other]
      decide
    have discards {named : Frame → Bool} {act : Frame → State → State} (hn : named f = true)
        (ha : act f (s.taken rest) = s.taken rest) :
        Host.Outcome.next (s.takeFrame named act) = (.next (s.taken rest) : Outcome) := by
      rw [takeFrame_atFront front start hn, ha]
    simp only [List.mem_cons, List.not_mem_nil, or_false] at kinds
    rcases kinds with rfl | rfl | rfl | rfl
    · exact discards takes judged
    · exact discards takes judged
    · exact discards takes judged
    · exact discards takes rollCall
  · refine congrArg Host.Outcome.next ((takeFrame_atFront front started ?_ _).trans rfl)
    simp [unknown]

end Sys2Proof.Machine
end

section
/-! PROOF. The service responder: requests turned away, queries answered, the dump, the RESTART order
(R173 to R182). -/

namespace Sys2Proof.Machine

/-! ### Requests (R173, R190, R191) -/

theorem byteAt_eq_of_nat1 {body : List Byte} {i n : Nat} (h : nat1 body i = n) :
    byteAt body i = byte n := by
  rw [← h]
  simp [nat1, byte]

/-- A frame that makes an assigned request carries its kind. -/
theorem Frame.request_kind {f : Frame} {r : Request} (h : f.request = some r) :
    f.isKind r.frameKind = true ∧ byteAt f.body 0 = byte r.code := by
  have found := List.find?_some h
  rw [Bool.and_eq_true, beq_iff_eq] at found
  exact ⟨found.1, byteAt_eq_of_nat1 found.2⟩

theorem Frame.makes_of_request {f : Frame} {r : Request} (h : f.request = some r) :
    f.makes r = true := by
  have kind := (f.request_kind h).1
  unfold Frame.makes
  rw [h]
  cases r <;> simp_all [Request.frameKind]

theorem byteAt_of_getElem? {body : List Byte} {i : Nat} {b : Byte} (h : body[i]? = some b) :
    byteAt body i = b := by
  simp [byteAt, List.getD_eq_getElem?_getD, h]

theorem paramWithin_of_getElem? {f : Frame} {i lo hi : Nat} {b : Byte} (h : f.body[i]? = some b)
    (hl : lo ≤ b.toNat) (hh : b.toNat ≤ hi) : paramWithin f i lo hi = true := by
  simp [paramWithin, h, hl, hh]

namespace State
variable {s : State} {f : Frame} {rest : List Frame} {r : Request} {carry : Frame → State → State}

theorem turnedAway_none (h : f.request = some r) (dump : s.responder.dump = none ∨ r = .restart)
    (role : r = .plant → s.role = .plant) (range : r.inRange f = true) : s.turnedAway f = none := by
  have busy : (s.responder.dump.isSome && f.request != some .restart) = false := by
    rcases dump with h | rfl
    · simp [h]
    · simp [h]
  have wrong : (r == .plant && s.role == .zone) = false := by
    cases r <;> simp_all
  unfold turnedAway
  rw [busy, h]
  simp [wrong, range]

/-- A request of another station past START is handed to the responder, and nothing of it to the
membership unit, whose address the answer leaves. -/
theorem serve_ordered (h : s.ordered f rest) (hm : f.makes r = true)
    (address : ((s.taken rest).respond f carry).address = s.address) :
    s.serve r carry = (s.taken rest).respond f carry := by
  obtain ⟨front, started, -, -, foreign⟩ := h
  unfold serve
  rw [takeFrame_atFront front started hm]
  exact judgeSource_other (.inl (by rwa [address]))

theorem ordered_of_asked (h : s.asked f rest) : s.ordered f rest :=
  ⟨h.front, by rw [h.online]; decide, h.addressed⟩

/-- A request that is carried out. -/
theorem serve_carried (h : s.ordered f rest) (hr : f.request = some r)
    (turn : s.turnedAway f = none) (address : (carry f (s.taken rest)).address = s.address) :
    s.serve r carry = carry f (s.taken rest) := by
  obtain ⟨dest, src, -⟩ := h.addressed
  have carried : (s.taken rest).respond f carry = carry f (s.taken rest) := by
    have turn' : (s.taken rest).turnedAway f = none := turn
    simp [respond, dest, src, turn']
  rw [serve_ordered h (f.makes_of_request hr) (by rwa [carried]), carried]

/-! ### Answers (R173, R191) -/

theorem allows_result (h : s.member.station = .online) :
    s.member.station.allows .result = true := by
  rw [h]
  rfl

/-- The line with a RESULT placed last on it. -/
theorem answer_line (online : s.member.station = .online) (room : s.line.replies < 3) (f : Frame)
    (code : ResultCode) (figures : List Byte) (use : ResultUse) :
    (s.answer f code figures use).2 = true ∧
      (s.answer f code figures use).1 = { s with line := (s.answer f code figures use).1.line } ∧
      (s.answer f code figures use).1.line =
        { s.line with
          queue := s.line.queue ++ [resultEntry f.src.toNat
            (resultBody (byteAt f.body 0) code false false figures) use]
          wait := (s.answer f code figures use).1.line.wait
          sequence := (s.answer f code figures use).1.line.sequence } := by
  unfold answer
  rw [placeReply_of_room (allows_result online) room]
  exact ⟨rfl, placeEntry_eq _ _, placeEntry_line _ _⟩

theorem answer_full (online : s.member.station = .online) (full : 3 ≤ s.line.replies) (f : Frame)
    (code : ResultCode) (figures : List Byte) (use : ResultUse) :
    s.answer f code figures use = ({ s with line := s.line.dropped }, false) :=
  placeReply_of_full (allows_result online) full _ _ _

theorem allows_result_of_ne_online (h : s.member.station ≠ .online) :
    s.member.station.allows .result = false := by
  cases hs : s.member.station
  case online => exact absurd hs h
  all_goals rfl

theorem answer_refused (h : s.member.station ≠ .online) (f : Frame) (code : ResultCode)
    (figures : List Byte) (use : ResultUse) : s.answer f code figures use = (s, false) :=
  placeReply_of_refused (allows_result_of_ne_online h) _ _ _

/-- The body of an answer without marks. -/
theorem resultBody_plain (kind : Byte) (code : ResultCode) (figures : List Byte) :
    resultBody kind code false false figures = kind :: byte code.code :: 0 :: figures := rfl

end State

open State in
/-- Settles O19: the four cases in their order, each placing its code. -/
theorem requestIsTurnedAway : Obligations.RequestIsTurnedAway := by
  constructor
  · intro s f rest r endStop code asked makes cases'
    have turned : s.turnedAway f = some code := by
      unfold turnedAway
      rcases cases' with ⟨dump, kind, rfl⟩ | ⟨dump, kind, rfl⟩ | ⟨dump, kind, role, rfl⟩ |
          ⟨dump, kind, role, range, rfl⟩
      · obtain ⟨d, hd⟩ := Option.ne_none_iff_exists'.mp dump
        simp [hd, kind]
      · simp [dump, kind]
      · simp [dump, kind, role]
      · simp [dump, kind, range]
        rintro rfl zone
        exact absurd ⟨rfl, zone⟩ role
    have answered (carry : Frame → State → State) :
        s.serve r carry = ((s.taken rest).answer f code [] .plain).1 := by
      obtain ⟨dest, src, -⟩ := asked.addressed
      have responded : (s.taken rest).respond f carry = ((s.taken rest).answer f code [] .plain).1 := by
        have turned' : (s.taken rest).turnedAway f = some code := turned
        simp [respond, dest, src, turned']
      rw [serve_ordered (ordered_of_asked asked) makes, responded]
      rw [responded, (answer_line (s := s.taken rest) asked.online asked.room f code [] .plain).2.1]
    obtain ⟨-, frame, line⟩ := answer_line (s := s.taken rest) asked.online asked.room f code [] .plain
    refine ⟨((s.taken rest).answer f code [] .plain).1, ?_, frame.trans ?_⟩
    · cases r <;> exact congrArg Host.Outcome.next (answered _)
    · rw [line, resultBody_plain]
  · intro s f rest r endStop front makes unaddressed
    have ignored (carry : Frame → State → State) : s.serve r carry = s.taken rest := by
      by_cases start : s.member.station = .start
      · exact takeFrame_start front start makes _
      · unfold serve
        rw [takeFrame_atFront front start makes]
        have silent : (s.taken rest).respond f carry = s.taken rest := by
          unfold respond
          rw [if_pos]
          rcases unaddressed with ⟨dest, -⟩ | src
          · simp [dest]
          · simp [src]
        rw [silent]
        exact judgeSource_other (unaddressed.imp (fun h => h.2) id)
    cases r <;> exact congrArg Host.Outcome.next (ignored _)

/-! ### Queries (R174 to R176) -/

namespace State
variable {s : State} {f : Frame} {rest : List Frame} {r : Request}

/-- A query without effect of its own is answered DONE with its figures, and changes the line alone. -/
theorem serve_report (h : s.asked f rest) (hr : f.request = some r) (turn : s.turnedAway f = none)
    (figures : Frame → State → List Byte) :
    ∃ t, s.serve r (fun g u => u.report g (figures g u)) = t ∧ t = { s with line := t.line } ∧
      t.line =
        { s.line with
          pair := rest
          queue := s.line.queue ++
            [resultEntry f.src.toNat (byte r.code :: 0 :: 0 :: figures f (s.taken rest)) .plain]
          wait := t.line.wait, sequence := t.line.sequence } := by
  obtain ⟨-, frame, line⟩ := answer_line (s := s.taken rest) h.online h.room f .done
    (figures f (s.taken rest)) .plain
  have served := serve_carried (carry := fun g u => u.report g (figures g u)) (ordered_of_asked h) hr
    turn (by unfold report; rw [frame])
  refine ⟨_, served, frame, ?_⟩
  rw [resultBody_plain, (f.request_kind hr).2] at line
  exact line

end State

theorem peerFigures_of_empty {table : List Entry} {a : Nat} (h : chain table (a % 8) = []) :
    peerFigures table a = [0, byte (a % 8), 255] := by
  unfold peerFigures chainOf
  simp [h, findEntry]

theorem peerFigures_of_missing {table : List Entry} {a : Nat} (h : chain table (a % 8) ≠ [])
    (missing : ∀ e ∈ chain table (a % 8), e.address ≠ a) :
    peerFigures table a = [1, byte (a % 8), byte (chain table (a % 8)).length] := by
  unfold peerFigures chainOf
  simp [h, findEntry_eq_none missing]

theorem peerFigures_of_found {table before after : List Entry} {e : Entry} {a : Nat}
    (h : chain table (a % 8) = before ++ e :: after) (he : e.address = a)
    (first : ∀ x ∈ before, x.address ≠ a) :
    peerFigures table a = foundFigures (a % 8) before.length e := by
  have found : findEntry (before ++ e :: after) a = some e := by
    unfold findEntry
    rw [List.find?_append, List.find?_eq_none.mpr (by simpa using first)]
    simp [he]
  have place : (before ++ e :: after).findIdx (fun e => e.address == a) = before.length := by
    rw [List.findIdx_append, if_neg]
    · simp [List.findIdx_cons, he]
    · rw [List.findIdx_lt_length]
      rintro ⟨x, hx, hxa⟩
      exact first x hx (by simpa using hxa)
  unfold peerFigures chainOf
  simp only [h, found, place]

open State in
/-- Settles O20: each query is a report of its figures. -/
theorem queriesReportTheirFigures : Obligations.QueriesReportTheirFigures := by
  refine ⟨?peer, ?share, ?plant⟩
  case peer =>
    intro s f rest b asked request dump param le
    have address : nat1 f.body 1 = b.toNat := congrArg BitVec.toNat (byteAt_of_getElem? param)
    have turn := turnedAway_none request (.inl dump) (fun h => Request.noConfusion h)
      (paramWithin_of_getElem? param (Nat.zero_le _) le)
    obtain ⟨t, served, frame, line⟩ := serve_report asked request turn fun g u =>
      peerFigures u.member.table (nat1 g.body 1)
    refine ⟨t, _, congrArg Host.Outcome.next served, frame, by rw [line], by rw [line]; rfl, ?_⟩
    rw [address]
    refine ⟨peerFigures_of_empty, peerFigures_of_missing, fun before e after split he first => ?_⟩
    exact peerFigures_of_found split he first
  case share =>
    intro s f rest asked request dump
    have turn := turnedAway_none request (.inl dump) (fun h => Request.noConfusion h) rfl
    obtain ⟨t, served, frame, line⟩ := serve_report asked request turn fun g u =>
      u.share.record.bytes u.role
    exact ⟨t, congrArg Host.Outcome.next served, frame, by rw [line], by rw [line], by rw [line]; rfl⟩
  case plant =>
    intro s f rest p asked request dump role param le
    have part : byteAt f.body 1 = p := byteAt_of_getElem? param
    have turn := turnedAway_none request (.inl dump) (fun _ => role)
      (paramWithin_of_getElem? param (Nat.zero_le _) le)
    obtain ⟨t, served, frame, line⟩ := serve_report asked request turn fun g u =>
      u.plantFigures (nat1 g.body 1)
    refine ⟨t, congrArg Host.Outcome.next served, frame, by rw [line], by rw [line], ?_⟩
    have figures : (s.taken rest).plantFigures (nat1 f.body 1) =
        p :: (if p.toNat = 0 then s.plantPart0 else s.plantPart1) := by
      simp only [plantFigures, nat1, part, beq_iff_eq, byte, BitVec.ofNat_toNat, BitVec.setWidth_eq]
      rfl
    rw [line, figures]
    rfl

/-! ### STATUS (R175) -/

open State in
/-- Settles O21: the answer is placed, and then the latches are cleared where the option asks for it. -/
theorem statusQueryReportsAndClears : Obligations.StatusQueryReportsAndClears := by
  intro s f rest p o asked request dump part option hp ho
  have range : Request.status.inRange f = true := by
    simp [Request.inRange, paramWithin_of_getElem? part (Nat.zero_le _) hp,
      paramWithin_of_getElem? option (Nat.zero_le _) ho]
  have turn := turnedAway_none request (.inl dump) (fun h => Request.noConfusion h) range
  have partIs : byteAt f.body 1 = p := byteAt_of_getElem? part
  have optionIs : byteAt f.body 2 = o := byteAt_of_getElem? option
  obtain ⟨placed, frame, line⟩ := answer_line (s := s.taken rest) asked.online asked.room f .done
    ((s.taken rest).statusFigures (nat1 f.body 1)) .plain
  set u := ((s.taken rest).answer f .done ((s.taken rest).statusFigures (nat1 f.body 1)) .plain).1
    with hu
  have carried : (s.taken rest).reportStatus f = u.andIf (o.toNat == 1) clearLatches := by
    have clears : nat1 f.body 2 = o.toNat := congrArg BitVec.toNat optionIs
    unfold reportStatus
    dsimp only
    rw [placed, Bool.and_true, clears]
  have address : ((s.taken rest).reportStatus f).address = s.address := by
    obtain ⟨-, -, address, -⟩ := ((s.taken rest).reportStatus_changes f).of_not_mem (i := .fixed)
      (by decide)
    exact address
  have served := serve_carried (carry := fun g v => v.reportStatus g) (ordered_of_asked asked) request
    turn address
  have queue : u.line.queue = s.line.queue ++ [resultEntry f.src.toNat
      ([2, 0, 0] ++ (s.taken rest).statusFigures p.toNat) .plain] := by
    rw [line, resultBody_plain, (f.request_kind request).2]
    rw [show nat1 f.body 1 = p.toNat from congrArg BitVec.toNat partIs]
    rfl
  have figures : (s.taken rest).statusFigures p.toNat = p :: (s.latchBytes ++ s.statusPart p.toNat) := by
    unfold statusFigures
    rw [show byte p.toNat = p by simp [byte]]
    rfl
  rw [figures] at queue
  refine ⟨_, congrArg Host.Outcome.next (served.trans carried), ?_⟩
  have pair : u.line.pair = rest := by rw [line]
  have counters : u.line.counters = s.line.counters := by rw [line]
  have latches : u.line.latches = s.line.latches := by rw [line]
  have option01 : o.toNat = 0 ∨ o.toNat = 1 := by omega
  rcases option01 with keeps | clears
  · rw [keeps]
    exact ⟨queue, pair, counters, fun _ => ⟨frame, latches⟩, fun k => absurd k (by decide)⟩
  · rw [clears]
    refine ⟨queue, pair, counters, fun k => absurd k (by decide), fun _ => ⟨rfl, ?_⟩⟩
    show u.clearLatches = _
    rw [frame]
    rfl

end Sys2Proof.Machine
end

section
/-! PROOF. The dump's walk over the live table, its RESULTs, and the RESTART orders that wait (R179 to
R182). -/

namespace Sys2Proof.Machine

/-! ### The walk (R180) -/

theorem seek_of_walkFinds {table : List Entry} {k i : Nat} {e : Entry} {left : Nat} :
    ∀ {c position : Nat}, left + c = 8 → walkFinds table c position k i e →
      seek table left c position = some (k, i, e) := by
  induction left with
  | zero =>
    rintro c position whole ⟨-, le, ⟨rfl, -⟩ | ⟨lt, -⟩⟩ <;> omega
  | succ left ih =>
    rintro c position whole ⟨found, le, ⟨rfl, rfl⟩ | ⟨lt, rfl, beyond, between⟩⟩
    · simp [seek, found]
    · have later : walkFinds table (c + 1) 0 k 0 e := by
        refine ⟨found, le, ?_⟩
        rcases Nat.lt_or_eq_of_le (Nat.succ_le_of_lt lt) with far | next
        · refine .inr ⟨far, rfl, ?_, fun j hj => between j (by omega)⟩
          rw [between (c + 1) (by omega) far]
          rfl
        · exact .inl ⟨next.symm, rfl⟩
      simp [seek, beyond, ih (by omega) later]

theorem seek_of_walkEnds {table : List Entry} {left : Nat} :
    ∀ {c position : Nat}, left + c = 8 → walkEnds table c position →
      seek table left c position = none := by
  induction left with
  | zero => intros; rfl
  | succ left ih =>
    rintro c position whole ⟨beyond, empty⟩
    have later : left ≠ 0 → walkEnds table (c + 1) 0 := by
      intro more
      refine ⟨?_, fun j hj => empty j (by omega)⟩
      rw [empty (c + 1) (by omega) (by omega)]
      rfl
    by_cases last : left = 0
    · subst last
      simp [seek, beyond]
    · simp [seek, beyond, ih (by omega) (later last)]

/-! ### Dump RESULTs (R180, R181) -/

theorem resultBody_last (kind : Byte) (last : Bool) (figures : List Byte) :
    resultBody kind .done last false figures = kind :: 0 :: (if last then 1 else 0) :: figures := by
  cases last <;> rfl

namespace State
variable {s : State} {d : Dump} {last aborted : Bool} {figures : List Byte}

theorem placeDump_of_room (online : s.member.station = .online) (room : s.line.replies < 3)
    (d : Dump) (last aborted : Bool) (figures : List Byte) :
    let t := s.placeDump d last aborted figures
    t = { s with
      line := t.line
      responder := { s.responder with dump := some { d with nextDue := false } } } ∧
    t.line = { s.line with
      queue := s.line.queue ++ [resultEntry d.requester
        (resultBody (byte Request.dump.code) .done last aborted figures) (.dump last)]
      wait := t.line.wait, sequence := t.line.sequence } := by
  have placed := placeReply_of_room
    (s := s.onResponder fun r => { r with dump := some { d with nextDue := false } })
    (allows_result online) room d.requester
    (resultBody (byte Request.dump.code) .done last aborted figures) (.dump last)
  unfold placeDump
  dsimp only
  rw [placed]
  exact ⟨placeEntry_eq _ _, placeEntry_line _ _⟩

/-- A dump RESULT that cannot be placed ends the dump. -/
theorem placeDump_of_full (online : s.member.station = .online) (full : 3 ≤ s.line.replies)
    (d : Dump) (last aborted : Bool) (figures : List Byte) :
    (s.placeDump d last aborted figures).responder.dump = none ∧
      (s.placeDump d last aborted figures).line = s.line.dropped := by
  have dropped := placeReply_of_full
    (s := s.onResponder fun r => { r with dump := some { d with nextDue := false } })
    (allows_result online) full d.requester
    (resultBody (byte Request.dump.code) .done last aborted figures) (.dump last)
  unfold placeDump
  dsimp only
  rw [dropped]
  exact ⟨rfl, rfl⟩

theorem placeDump_of_refused (h : s.member.station ≠ .online)
    (d : Dump) (last aborted : Bool) (figures : List Byte) :
    (s.placeDump d last aborted figures).responder.dump = none ∧
      (s.placeDump d last aborted figures).line = s.line := by
  have refused := placeReply_of_refused
    (s := s.onResponder fun r => { r with dump := some { d with nextDue := false } })
    (allows_result_of_ne_online h) d.requester
    (resultBody (byte Request.dump.code) .done last aborted figures) (.dump last)
  unfold placeDump
  dsimp only
  rw [refused]
  exact ⟨rfl, rfl⟩

/-- A dump RESULT is built in one of three ways, and placed (R180 to R182). -/
theorem buildDump_cases (s : State) (d : Dump) : ∃ d' last aborted figures,
    s.buildDump d = s.placeDump d' last aborted figures := by
  unfold buildDump
  split_ifs
  · exact ⟨_, _, _, _, rfl⟩
  · split <;> exact ⟨_, _, _, _, rfl⟩

theorem buildDump_found {k i : Nat} {e : Entry} (live : d.abort = false) (hc : d.chain ≤ 7)
    (found : walkFinds s.member.table d.chain d.position k i e) : s.buildDump d = s.placeDump
      { d with chain := k, position := i + 1, remaining := d.remaining - 1 }
      (d.remaining - 1 == 0) false (foundFigures k i e) := by
  simp [buildDump, live, seek_of_walkFinds (by omega : 8 - d.chain + d.chain = 8) found]

theorem buildDump_ends (live : d.abort = false) (hc : d.chain ≤ 7)
    (ends : walkEnds s.member.table d.chain d.position) :
    s.buildDump d = s.placeDump d true false noEntry := by
  simp [buildDump, live, seek_of_walkEnds (by omega : 8 - d.chain + d.chain = 8) ends]

theorem buildDump_aborted (h : d.abort = true) : s.buildDump d = s.placeDump d true true noEntry := by
  simp [buildDump, h]

/-- Where a RESULT can be placed, a dump RESULT changes the line and the dump alone. -/
theorem buildDump_frame (online : s.member.station = .online) (room : s.line.replies < 3) (d : Dump) :
    let t := s.buildDump d
    t = { s with line := t.line, responder := { s.responder with dump := t.responder.dump } } ∧
      t.line.pair = s.line.pair ∧ t.line.latches = s.line.latches := by
  obtain ⟨d', last, aborted, figures, built⟩ := s.buildDump_cases d
  obtain ⟨frame, line⟩ := placeDump_of_room online room d' last aborted figures
  dsimp only
  rw [built]
  exact ⟨by rw [frame], by rw [line], by rw [line]⟩

end State

/-- The dump that a DUMP query begins (R180). -/
def firstDump (requester chain count : Nat) : Dump where
  requester := requester
  chain := chain
  position := 0
  remaining := count
  abort := false
  nextDue := false

theorem State.beginDump_eq (s : State) (f : Frame) :
    s.beginDump f = s.buildDump (firstDump f.src.toNat (nat1 f.body 1) (nat1 f.body 2)) := rfl

open State in
/-- Settles O22: the first RESULT is built at the head of the start chain. -/
theorem dumpBeginsAtItsChain : Obligations.DumpBeginsAtItsChain := by
  intro s f rest c n asked request dump chain count hc h1 h24
  have range : Request.dump.inRange f = true := by
    simp [Request.inRange, paramWithin_of_getElem? chain (Nat.zero_le _) hc,
      paramWithin_of_getElem? count h1 h24]
  have turn := turnedAway_none request (.inl dump) (fun h => Request.noConfusion h) range
  have begun := (s.taken rest).beginDump_eq f
  rw [show nat1 f.body 1 = c.toNat from congrArg BitVec.toNat (byteAt_of_getElem? chain),
    show nat1 f.body 2 = n.toNat from congrArg BitVec.toNat (byteAt_of_getElem? count)] at begun
  set d := firstDump f.src.toNat c.toNat n.toNat
  obtain ⟨frame, pair, latches⟩ := buildDump_frame (s := s.taken rest) asked.online asked.room d
  have served := serve_carried (carry := fun g u => u.beginDump g) (ordered_of_asked asked) request turn
    (by rw [begun, frame])
  refine ⟨_, congrArg Host.Outcome.next (served.trans begun), frame, pair, latches, ?_, ?_⟩
  · intro k i e found
    obtain ⟨placed, line⟩ := placeDump_of_room (s := s.taken rest) asked.online asked.room
      { d with chain := k, position := i + 1, remaining := n.toNat - 1 } (n.toNat - 1 == 0) false
      (foundFigures k i e)
    have lastIs : (n.toNat - 1 == 0) = (n.toNat == 1) := by
      rw [Bool.eq_iff_iff]
      simp only [beq_iff_eq]
      omega
    rw [buildDump_found (s := s.taken rest) rfl hc found]
    refine ⟨congrArg (fun t : State => t.responder.dump) placed, ?_⟩
    refine (congrArg Line.queue line).trans ?_
    rw [resultBody_last, lastIs]
    simp only [beq_iff_eq]
    rfl
  · intro ends
    obtain ⟨-, line⟩ := placeDump_of_room (s := s.taken rest) asked.online asked.room d true false
      noEntry
    rw [buildDump_ends (s := s.taken rest) rfl hc ends]
    exact congrArg Line.queue line

open State in
/-- Settles O23: the same build at the cursor, and the end of the dump where it cannot be placed. -/
theorem dumpGoesOnFromItsCursor : Obligations.DumpGoesOnFromItsCursor := by
  intro s d running dump due hc
  have goesOn : exec .dumpNextResult s = .next (s.buildDump d) := by
    refine congrArg Host.Outcome.next ((s.take_running _ running).trans ?_)
    simp [continueDump, dump, due]
  refine ⟨fun online room => ?_, fun refused => ?_, fun online full => ?_⟩
  · obtain ⟨frame, pair, latches⟩ := buildDump_frame online room d
    refine ⟨_, goesOn, frame, pair, latches, fun k i e live found => ?_, fun live ends => ?_,
      fun abort => ?_⟩
    · obtain ⟨placed, line⟩ := placeDump_of_room online room
        { d with chain := k, position := i + 1, remaining := d.remaining - 1 } (d.remaining - 1 == 0)
        false (foundFigures k i e)
      have lastIs : (d.remaining - 1 == 0) = decide (d.remaining ≤ 1) := by
        rw [Bool.eq_iff_iff]
        simp only [beq_iff_eq, decide_eq_true_eq]
        omega
      rw [buildDump_found live hc found]
      refine ⟨by rw [placed, live], ?_⟩
      rw [line, resultBody_last, lastIs]
      simp only [decide_eq_true_eq]
      rfl
    · obtain ⟨-, line⟩ := placeDump_of_room online room d true false noEntry
      rw [buildDump_ends live hc ends, line]
      rfl
    · obtain ⟨-, line⟩ := placeDump_of_room online room d true true noEntry
      rw [buildDump_aborted abort, line]
      rfl
  · obtain ⟨d', last, aborted, figures, built⟩ := s.buildDump_cases d
    rw [built] at goesOn
    exact ⟨_, goesOn, placeDump_of_refused refused d' last aborted figures⟩
  · obtain ⟨d', last, aborted, figures, built⟩ := s.buildDump_cases d
    rw [built] at goesOn
    exact ⟨_, goesOn, placeDump_of_full online full d' last aborted figures⟩

/-! ### RESTART orders (R179, R182) -/

theorem Responder.orderly.kept {r : Responder} (h : r.orderly) :
    (r.waiting.filter fun w => !w.done && !w.dumpEnd) = [] ∧
      (r.waiting.filter fun w => w.done || w.dumpEnd) = r.waiting := by
  constructor
  · rw [List.filter_eq_nil_iff]
    intro w hw
    rcases h w hw with k | k <;> simp [k]
  · rw [List.filter_eq_self]
    intro w hw
    rcases h w hw with k | k <;> simp [k]

namespace State
variable {s : State}

/-- An order that awaits a RESULT waits behind the others. -/
theorem restartWaits_awaiting (orderly : s.responder.orderly) {done dumpEnd : Bool}
    (awaits : (done || dumpEnd) = true) : s.restartWaits done dumpEnd =
      { s with responder :=
          { s.responder with waiting := s.responder.waiting ++ [{ done, dumpEnd }] } } := by
  obtain ⟨none, all⟩ := orderly.kept
  have ready : (!done && !dumpEnd) = false := by
    rw [← Bool.not_or, awaits]
    rfl
  simp [restartWaits, handRestarts, none, all, awaits, ready, onResponder]

/-- An order that awaits none is handed on at once. -/
theorem restartWaits_handed (orderly : s.responder.orderly) : s.restartWaits false false =
    { s with member := { s.member with restartsHanded := s.member.restartsHanded + 1 } } := by
  obtain ⟨none, all⟩ := orderly.kept
  simp [restartWaits, handRestarts, none, all, onResponder]

theorem carryRestart_of_none (dump : s.responder.dump = none) (f : Frame) :
    s.carryRestart f = (s.answer f .done [] .restart).1.restartWaits
      (s.answer f .done [] .restart).2 false := by
  simp [carryRestart, dump]

/-- The abort mark is set on the dump, unless its last RESULT is queued (R182). -/
def markAbort (s : State) (d : Dump) : State :=
  s.onResponder fun r => { r with dump := some { d with abort := d.abort || !s.line.lastQueued } }

theorem carryRestart_of_some {d : Dump} (dump : s.responder.dump = some d) (f : Frame) :
    s.carryRestart f =
      if f.src.toNat == d.requester then (s.markAbort d).restartWaits false true
      else ((s.markAbort d).answer f .done [] .restart).1.restartWaits
        ((s.markAbort d).answer f .done [] .restart).2 (!d.abort) := by
  simp [carryRestart, dump, markAbort]

end State

open State in
/-- Settles O26: by whether a dump is in flight, whose order it is, and whether the answer is placed. -/
theorem restartOrderWaitsForItsAnswer : Obligations.RestartOrderWaitsForItsAnswer := by
  have turn {s : State} {f : Frame} (request : f.request = some .restart) : s.turnedAway f = none :=
    turnedAway_none request (.inr rfl) (fun h => Request.noConfusion h) rfl
  have served {s : State} {f : Frame} {rest : List Frame} (h : s.ordered f rest)
      (request : f.request = some .restart) :
      exec .restart s = .next ((s.taken rest).carryRestart f) := by
    refine congrArg Host.Outcome.next (serve_carried (carry := fun g u => u.carryRestart g) h request
      (turn request) ?_)
    obtain ⟨-, -, address, -⟩ := ((s.taken rest).carryRestart_changes f).of_not_mem (i := .fixed)
      (by decide)
    exact address
  refine ⟨?asked, ?refused, ?full, ?dumping⟩
  case asked =>
    intro s f rest asked request dump orderly
    obtain ⟨placed, frame, line⟩ := answer_line (s := s.taken rest) asked.online asked.room f .done []
      .restart
    have orderly' : ((s.taken rest).answer f .done [] .restart).1.responder.orderly := by
      rw [frame]
      exact orderly
    have carried := carryRestart_of_none (s := s.taken rest) dump f
    rw [placed, restartWaits_awaiting orderly' rfl] at carried
    refine ⟨_, served (ordered_of_asked asked) request, ?_⟩
    rw [carried]
    refine ⟨?_, by rw [frame], by rw [frame], by rw [frame]⟩
    show ((s.taken rest).answer f .done [] .restart).1.line.queue = _
    rw [line, (f.request_kind request).2]
    rfl
  case refused =>
    intro s f rest front request dest src foreign station dump orderly
    have started : s.member.station ≠ .start := by rcases station with h | h | h <;> rw [h] <;> decide
    have silent : (s.taken rest).member.station ≠ .online := by
      rcases station with h | h | h <;> intro k <;> cases h.symm.trans k
    have orderly' : (s.taken rest).responder.orderly := orderly
    rw [served ⟨front, started, dest, src, foreign⟩ request,
      carryRestart_of_none (s := s.taken rest) dump, answer_refused silent,
      restartWaits_handed orderly']
  case full =>
    intro s f rest ordered request online full dump orderly
    rw [served ordered request, carryRestart_of_none (s := s.taken rest) dump,
      answer_full (s := s.taken rest) online full, restartWaits_handed]
    exact orderly
  case dumping =>
    intro s f rest d ordered request online dump orderly
    refine ⟨_, served ordered request, ?_⟩
    rw [carryRestart_of_some (s := s.taken rest) dump]
    set v := (s.taken rest).markAbort d with hv
    have orderly' : v.responder.orderly := orderly
    by_cases own : f.src.toNat = d.requester
    · rw [if_pos (by simpa using own), restartWaits_awaiting orderly' rfl]
      exact ⟨rfl, fun _ => ⟨rfl, rfl, rfl⟩, fun k => absurd own k, fun k => absurd own k, rfl⟩
    · rw [if_neg (by simpa using own)]
      by_cases room : s.line.replies < 3
      · obtain ⟨placed, frame, line⟩ := answer_line (s := v) online room f .done [] .restart
        have orderly'' : (v.answer f .done [] .restart).1.responder.orderly := by
          rw [frame]
          exact orderly'
        rw [placed, restartWaits_awaiting orderly'' rfl]
        refine ⟨by rw [frame]; rfl, fun k => absurd k own, fun _ _ => ⟨?_, ?_, ?_, ?_⟩,
          fun _ full => absurd room (by omega), ?_⟩
        · refine (congrArg Line.queue line).trans ?_
          rw [(f.request_kind request).2]
          rfl
        · exact congrArg Line.pair line
        · rw [frame]
          rfl
        · rw [frame]
          rfl
        · rw [frame]
          rfl
      · rw [answer_full (s := v) online (by omega : 3 ≤ s.line.replies)]
        have marked : v.responder.dump = some { d with abort := d.abort ||
            !(s.line.queue.any fun e => e.use == ResultUse.dump true) } := rfl
        cases abort : d.abort <;> rw [abort] at marked
        · rw [restartWaits_awaiting (s := { v with line := v.line.dropped }) orderly' rfl]
          exact ⟨marked, fun k => absurd k own, fun _ k => absurd k room,
            fun _ _ => ⟨rfl, fun _ => ⟨rfl, rfl⟩, fun k => Bool.noConfusion k⟩, rfl⟩
        · rw [show (!true) = false from rfl,
            restartWaits_handed (s := { v with line := v.line.dropped }) orderly']
          exact ⟨marked, fun k => absurd k own, fun _ k => absurd k room,
            fun _ _ => ⟨rfl, fun k => Bool.noConfusion k, fun _ => ⟨rfl, rfl⟩⟩, rfl⟩

end Sys2Proof.Machine
end

section
/-! PROOF. What each operation of the damper drive does to the drive, an equation per case (05). -/

namespace Sys2Proof.Machine

namespace State
variable (s : State)

/-! ### Homing (R86 to R88) -/

/-- The drive of a homing run that begins. -/
def homingBegun (retry : Bool) : Drive :=
  { s.drive with
    state := .homing, count := none, stuckSteps := 0, rehomeDue := false, retry, homingSteps := 0,
    settle := .stopped, step := s.timer Config.stepMs }

theorem enterHoming_clear (retry : Bool) (h : s.drive.endStop = false) :
    s.enterHoming retry = s.onDrive fun _ => s.homingBegun retry := by
  unfold enterHoming
  rw [h]
  rfl

theorem enterHoming_found (retry : Bool) (h : s.drive.endStop = true) :
    s.enterHoming retry = (s.onDrive fun _ => s.homingBegun retry).homingFound := by
  unfold enterHoming
  rw [h]
  rfl

/-- A run that ends with target 0 ends at rest, a retry's as a completed move. -/
theorem homingFound_shut (h : s.drive.target = 0) : s.homingFound.drive =
    { (if s.drive.retry then
        ({ s.drive with count := some 0, sinceStop := 0, aligned := false } : Drive).countMove
      else { s.drive with count := some 0, sinceStop := 0, aligned := false }) with
      state := .idle, step := .stopped, settle := s.timer Config.settleMs, phasesOn := true } := by
  unfold homingFound
  rw [h]
  rfl

theorem homingFound_open (h : s.drive.target ≠ 0) : s.homingFound.drive =
    { s.drive with
      count := some 0, sinceStop := 0, aligned := false
      stallCount := if s.drive.retry then s.drive.stallCount else 0, retry := false
      state := .moving, settle := .stopped, step := s.timer Config.stepMs } := by
  unfold homingFound
  rw [if_neg (by simpa using h)]
  rfl

/-- Wherever a homing run finds the end-stop: at count 0, on the way to its target. -/
structure foundStop (d d' : Drive) : Prop where
  count : d'.count = some 0
  sinceStop : d'.sinceStop = 0
  state : d'.state = if d.target = 0 then .idle else .moving
  target : d'.target = d.target
  phasePlace : d'.phasePlace = d.phasePlace
  aligned : d'.aligned = false
  hold : d'.hold = d.hold
  slip : d'.slip = d.slip
  slipCount : d'.slipCount = d.slipCount
  closedNotConfirmed : d'.closedNotConfirmed = d.closedNotConfirmed
  cause : d'.cause = d.cause

theorem homingFound_found : foundStop s.drive s.homingFound.drive := by
  by_cases h : s.drive.target = 0
  · rw [s.homingFound_shut h]
    cases s.drive.retry <;> constructor <;> simp [Drive.countMove, h]
  · rw [s.homingFound_open h]
    constructor <;> simp [h]

/-- At its target a run ends at rest, its last pattern held for 200 ms (R103). -/
theorem homingFound_rests (h : s.drive.target = 0) : s.homingFound.drive.phasesOn = true ∧
    s.homingFound.drive.settle = .running (s.now + 200) ∧ s.homingFound.drive.step = .stopped := by
  rw [s.homingFound_shut h]
  exact ⟨rfl, rfl, rfl⟩

theorem homingFound_phasesOn (h : s.drive.phasesOn = true) :
    s.homingFound.drive.phasesOn = true := by
  by_cases ht : s.drive.target = 0
  · exact (s.homingFound_rests ht).1
  · rw [s.homingFound_open ht]
    exact h

/-- A run that is no retry leaves the move counters and the rehome-due mark. -/
theorem homingFound_counters (h : s.drive.retry = false) :
    s.homingFound.drive.completed = s.drive.completed ∧
      s.homingFound.drive.rehomeDue = s.drive.rehomeDue ∧
      (s.drive.stallCount = 0 → s.homingFound.drive.stallCount = 0) := by
  by_cases ht : s.drive.target = 0
  · rw [s.homingFound_shut ht, h]
    exact ⟨rfl, rfl, id⟩
  · rw [s.homingFound_open ht, h]
    exact ⟨rfl, rfl, fun _ => rfl⟩

/-- HOMING entered with the end-stop sensed is over at once (R86). -/
theorem enterHoming_foundStop (retry : Bool) (h : s.drive.endStop = true) :
    foundStop s.drive (s.enterHoming retry).drive := by
  rw [s.enterHoming_found retry h]
  obtain ⟨count, since, state, target, place, aligned, hold, slip, slipCount, closed, cause⟩ :=
    homingFound_found (s.onDrive fun _ => s.homingBegun retry)
  exact ⟨count, since, state, target, place, aligned, hold, slip, slipCount, closed, cause⟩

theorem enterHoming_clear_drive (retry : Bool) (h : s.drive.endStop = false) :
    (s.enterHoming retry).drive = s.homingBegun retry := by
  rw [s.enterHoming_clear retry h]
  rfl

/-- Entering HOMING, whatever the end-stop shows, leaves these. -/
theorem enterHoming_keeps (retry : Bool) : (s.enterHoming retry).drive.target = s.drive.target ∧
    (s.enterHoming retry).drive.hold = s.drive.hold ∧
    (s.enterHoming retry).drive.slip = s.drive.slip ∧
    (s.enterHoming retry).drive.slipCount = s.drive.slipCount ∧
    (s.enterHoming retry).drive.phasePlace = s.drive.phasePlace ∧
    (s.enterHoming retry).drive.cause = s.drive.cause ∧
    (s.enterHoming retry).drive.closedNotConfirmed = s.drive.closedNotConfirmed := by
  cases h : s.drive.endStop
  · rw [s.enterHoming_clear_drive retry h]
    exact ⟨rfl, rfl, rfl, rfl, rfl, rfl, rfl⟩
  · obtain ⟨-, -, -, target, place, -, hold, slip, slipCount, closed, cause⟩ :=
      s.enterHoming_foundStop retry h
    exact ⟨target, hold, slip, slipCount, place, cause, closed⟩

/-- A HOMING that is no retry leaves the move counter, and no rehome is due after it. -/
theorem enterHoming_counters : (s.enterHoming false).drive.completed = s.drive.completed ∧
    (s.enterHoming false).drive.rehomeDue = false ∧
    (s.drive.stallCount = 0 → (s.enterHoming false).drive.stallCount = 0) := by
  cases h : s.drive.endStop
  · rw [s.enterHoming_clear_drive false h]
    exact ⟨rfl, rfl, id⟩
  · rw [s.enterHoming_found false h]
    exact homingFound_counters (s.onDrive fun _ => s.homingBegun false) rfl

/-! ### Moves (R89, R91, R93) -/

/-- The drive of a completed move, at rest at its target. -/
def moveDone : Drive :=
  { s.drive.countMove with
    state := .idle, step := .stopped, settle := s.timer Config.settleMs, phasesOn := true }

/-- A move to anywhere but 0, or a close confirmed in time, is complete with the drive at rest. -/
theorem completeMove_rests (h : s.drive.target ≠ 0 ∨ s.drive.sinceStop ≤ 24) :
    s.completeMove.drive = s.moveDone := by
  unfold completeMove
  rw [if_neg]
  · rfl
  · simp only [Bool.and_eq_true, beq_iff_eq, decide_eq_true_eq]
    omega

/-- A close that is not confirmed in time is complete, and the drive homes (R93). -/
theorem completeMove_unconfirmed (ht : s.drive.target = 0) (h : 24 < s.drive.sinceStop) :
    s.completeMove =
      (s.onDrive fun _ => { s.moveDone with closedNotConfirmed := true }).enterHoming false := by
  unfold completeMove
  rw [if_pos]
  · rfl
  · simp [ht, h]

theorem completeMove_keeps : s.completeMove.drive.target = s.drive.target ∧
    s.completeMove.drive.hold = s.drive.hold ∧ s.completeMove.drive.slip = s.drive.slip ∧
    s.completeMove.drive.slipCount = s.drive.slipCount ∧
    s.completeMove.drive.phasePlace = s.drive.phasePlace ∧
    s.completeMove.drive.completed = (s.drive.completed + 1) % 256 ∧
    s.completeMove.drive.stallCount = 0 := by
  by_cases h : s.drive.target ≠ 0 ∨ s.drive.sinceStop ≤ 24
  · rw [s.completeMove_rests h]
    exact ⟨rfl, rfl, rfl, rfl, rfl, rfl, rfl⟩
  · rw [s.completeMove_unconfirmed (by omega) (by omega)]
    set u := s.onDrive fun _ => { s.moveDone with closedNotConfirmed := true }
    obtain ⟨target, hold, slip, slipCount, place, -⟩ := u.enterHoming_keeps false
    obtain ⟨completed, -, stalls⟩ := u.enterHoming_counters
    exact ⟨target, hold, slip, slipCount, place, completed, stalls rfl⟩

/-- The target of a drive, stored. -/
def aimed (x : Nat) : State := s.onDrive fun d => { d with target := x }

/-- A drive that is not homed stores its target, and one that moves elsewhere has it replaced (R89). -/
theorem takeTarget_stored (x : Nat) (h : s.drive.state = .unhomed ∨ s.drive.state = .homing ∨
    s.drive.state = .fault ∨ (s.drive.state = .moving ∧ s.drive.count ≠ some x) ∨
    (s.drive.state = .idle ∧ s.drive.count = some x)) : s.takeTarget x = s.aimed x := by
  unfold takeTarget
  rcases h with h | h | h | ⟨h, hc⟩ | ⟨h, hc⟩
  · rw [h]
    rfl
  · rw [h]
    rfl
  · rw [h]
    rfl
  · rw [h]
    exact if_neg (by simpa using hc)
  · rw [h]
    exact if_pos (by simpa using hc)

theorem takeTarget_homes (x : Nat) (h : s.drive.state = .idle) (hc : s.drive.count ≠ some x)
    (due : s.drive.rehomeDue = true) : s.takeTarget x = (s.aimed x).enterHoming false := by
  unfold takeTarget
  rw [h]
  exact (if_neg (by simpa using hc)).trans (if_pos due)

theorem takeTarget_moves (x : Nat) (h : s.drive.state = .idle) (hc : s.drive.count ≠ some x)
    (due : s.drive.rehomeDue = false) : (s.takeTarget x).drive =
      { s.drive with
        target := x, stallCount := 0, state := .moving, settle := .stopped,
        step := s.timer Config.stepMs } := by
  have begun : s.takeTarget x =
      ((s.aimed x).onDrive fun d => { d with stallCount := 0 }).enterMoving := by
    unfold takeTarget
    rw [h]
    exact (if_neg (by simpa using hc)).trans (if_neg (by simp [due]))
  rw [begun]
  rfl

theorem takeTarget_completes (x : Nat) (h : s.drive.state = .moving) (hc : s.drive.count = some x) :
    s.takeTarget x = (s.aimed x).completeMove := by
  unfold takeTarget
  rw [h]
  exact if_pos (by simpa using hc)

/-- Whatever the state, the target is the one taken, and a hold and the slips stay. -/
theorem takeTarget_keeps (x : Nat) : (s.takeTarget x).drive.target = x ∧
    (s.takeTarget x).drive.hold = s.drive.hold ∧ (s.takeTarget x).drive.slip = s.drive.slip ∧
    (s.takeTarget x).drive.slipCount = s.drive.slipCount := by
  by_cases hc : s.drive.count = some x
  · cases hs : s.drive.state
    case moving =>
      obtain ⟨target, hold, slip, slipCount, -⟩ := (s.aimed x).completeMove_keeps
      rw [s.takeTarget_completes x hs hc]
      exact ⟨target, hold, slip, slipCount⟩
    all_goals
      rw [s.takeTarget_stored x (by simp [hs, hc])]
      exact ⟨rfl, rfl, rfl, rfl⟩
  · cases hs : s.drive.state
    case idle =>
      cases due : s.drive.rehomeDue
      · rw [s.takeTarget_moves x hs hc due]
        exact ⟨rfl, rfl, rfl, rfl⟩
      · obtain ⟨target, hold, slip, slipCount, -⟩ := (s.aimed x).enterHoming_keeps false
        rw [s.takeTarget_homes x hs hc due]
        exact ⟨target, hold, slip, slipCount⟩
    all_goals
      rw [s.takeTarget_stored x (by simp [hs, hc])]
      exact ⟨rfl, rfl, rfl, rfl⟩

end State

/-! ### The prompt after a drive event (R54, R56) -/

namespace State
variable {s t : State}

/-- The state after, changed in the drive and in what an own announcement reaches. -/
theorem frame_of_driveItems {a : List Item} (h : s.sameBut a t)
    (ha : a ⊆ [.clock, .drive, .wire, .announcer, .sequencer, .plantFlight, .pair, .latches,
      .counters]) :
    t = { s with now := t.now, drive := t.drive, demand := t.demand, plant := t.plant, line := t.line } := by
  refine eq_of_same fun i => ?_
  have other := (h.mono ha).of_not_mem (i := i)
  cases i
  case fixed | station | stationTimers | aging | roster | waits | memberLatches | restarts
      | channels | contacts | sample | setpoints | shareFlight | shareResult | responder =>
    exact other (by decide)
  all_goals simp [Item.same]

theorem promptFlags_drive (old : State) : (s.promptFlags old).drive = s.drive :=
  (s.promptFlags_changes old).of_not_mem (i := .drive) (by decide)

theorem promptFlags_frame_drive {old : State} (h : s.drives t) :
    t.promptFlags old = { s with
      drive := t.drive, demand := (t.promptFlags old).demand, plant := (t.promptFlags old).plant
      line := (t.promptFlags old).line } := by
  have changes := s.promptedDrive_changes (u := old) h
  have frame := frame_of_driveItems changes (by decide)
  have now : (t.promptFlags old).now = s.now := changes.of_not_mem (i := .clock) (by decide)
  rw [now, promptFlags_drive] at frame
  exact frame

/-- Without a change of the flags there is no prompt. -/
theorem promptFlags_of_flags {old : State} (zone : s.zoneFlags = old.zoneFlags)
    (plant : s.plantFlags = old.plantFlags) : s.promptFlags old = s := by
  unfold promptFlags
  rw [zone, plant, bne_self_eq_false, bne_self_eq_false]
  split <;> rfl

/-- A drive that is not faulted before or after gives no prompt. -/
theorem promptFlags_unfaulted (h : s.drives t)
    (fault : (t.drive.state == .fault) = (s.drive.state == .fault)) : t.promptFlags s = t := by
  obtain ⟨d, rfl⟩ := h
  refine promptFlags_of_flags ?_ rfl
  unfold zoneFlags
  rw [fault]
  rfl

end State

end Sys2Proof.Machine
end

section
/-! PROOF. The steps of a homing run and of a move, and the end of a hold (05). -/

namespace Sys2Proof.Machine

/-! ### Homing runs (R85 to R88, R95, R103) -/

namespace State
variable (s : State)

/-- The drive of a homing step, before its judgement. -/
def homingStepped : Drive := { s.drive.issue false with homingSteps := s.drive.homingSteps + 1 }

theorem homingStep_stalled : (s.homingStep true).drive =
    { s.homingStepped with
      stallCount := if s.drive.retry then 2 else s.drive.stallCount
      state := .fault, cause := if s.drive.retry then .stall else .homeFail
      count := none, retry := false, phasesOn := false, step := .stopped, settle := .stopped } := by
  unfold homingStep
  cases s.drive.retry <;> rfl

theorem homingStep_found (h : s.drive.endStop = true) :
    s.homingStep false = (s.onDrive fun _ => s.homingStepped).homingFound := by
  unfold homingStep
  rw [h]
  rfl

theorem homingStep_fails (h : s.drive.endStop = false) (hn : 1319 ≤ s.drive.homingSteps) :
    (s.homingStep false).drive =
      { s.homingStepped with
        state := .fault, cause := .homeFail, count := none, retry := false, phasesOn := false
        step := .stopped, settle := .stopped } := by
  unfold homingStep
  rw [h, if_neg Bool.noConfusion, if_neg Bool.noConfusion, if_pos (by omega)]
  rfl

theorem homingStep_goesOn (h : s.drive.endStop = false) (hn : s.drive.homingSteps < 1319) :
    (s.homingStep false).drive = { s.homingStepped with step := s.timer Config.stepMs } := by
  unfold homingStep
  rw [h, if_neg Bool.noConfusion, if_neg Bool.noConfusion, if_neg (by omega)]
  rfl

/-- However it is judged, a homing step moves the pattern back, except where the alignment held it. -/
theorem homingStep_keeps (stall : Bool) :
    (s.homingStep stall).drive.phasePlace =
        (if s.drive.aligned then s.drive.phasePlace else s.drive.phasePlace - 1) ∧
      (s.homingStep stall).drive.aligned = false ∧
      (s.homingStep stall).drive.target = s.drive.target := by
  cases stall
  case true =>
    rw [homingStep_stalled]
    exact ⟨rfl, rfl, rfl⟩
  case false =>
    cases h : s.drive.endStop
    case true =>
      rw [s.homingStep_found h]
      obtain ⟨-, -, -, target, place, aligned, -⟩ :=
        homingFound_found (s.onDrive fun _ => s.homingStepped)
      exact ⟨place, aligned, target⟩
    case false =>
      by_cases hn : s.drive.homingSteps < 1319
      · rw [s.homingStep_goesOn h hn]
        exact ⟨rfl, rfl, rfl⟩
      · rw [s.homingStep_fails h (by omega)]
        exact ⟨rfl, rfl, rfl⟩

end State

/-- Where HOMING is entered no fault is standing, so no prompt follows. -/
theorem State.enterHoming_state_ne_fault (s : State) (retry : Bool) :
    (s.enterHoming retry).drive.state ≠ .fault := by
  cases h : s.drive.endStop
  · rw [s.enterHoming_clear_drive retry h]
    exact DriveState.noConfusion
  · rw [(s.enterHoming_foundStop retry h).state]
    split <;> exact DriveState.noConfusion

open State in
/-- Settles O38: the alignment's end, a homing step and the settling's end, each by the judgement of
the drive it names; a prompt reaches the line and the announcement timing alone. -/
theorem homingRunIsJudged : Obligations.HomingRunIsJudged := by
  refine ⟨fun s d endStop held state alignment => ?_, fun s d stall endStop held state step => ?_,
    fun s d held settle => ?_⟩
  · set u := s.reach d
    set v := (u.senseEndStop endStop).onDrive fun d => { d with alignment := .stopped } with hv
    have driven : u.drives (v.enterHoming false) :=
      drives_trans (drives_trans (onDrive_frame _ _) (onDrive_frame _ _)) (enterHoming_frame _ _)
    have run : exec (.alignmentEnd endStop) s = .next (v.enterHoming false) := by
      show Host.Outcome.next _ = _
      rw [alignment, s.takeExpiry_running d _ held]
      refine congrArg _ ((congrArg (fun b => andIf u b _) (by rw [show u.drive.state = _ from state])).trans ?_)
      refine promptFlags_unfaulted driven ?_
      rw [show u.drive.state = _ from state, beq_eq_false_iff_ne.mpr (enterHoming_state_ne_fault _ _)]
      rfl
    refine ⟨_, run, ?_, fun clear => ?_, fun found => ?_⟩
    · obtain ⟨x, hx⟩ := driven
      rw [hx]
      rfl
    · rw [v.enterHoming_clear_drive false clear]
      subst clear
      rfl
    · obtain ⟨count, -, state', target, place, aligned, -⟩ := v.enterHoming_foundStop false found
      refine ⟨count, target, place, aligned, state', fun h => ?_⟩
      rw [v.enterHoming_found false found]
      obtain ⟨on, settle, -⟩ := homingFound_rests (v.onDrive fun _ => v.homingBegun false) h
      exact ⟨on, settle⟩
  · set u := (s.reach d).senseEndStop endStop with hu
    have run : exec (.homingStep stall endStop) s =
        .next ((u.homingStep stall).promptFlags (s.reach d)) := by
      show Host.Outcome.next _ = _
      rw [step, s.takeExpiry_running d _ held]
      exact congrArg _ (if_pos (beq_iff_eq.mpr state))
    refine ⟨_, run, ?_⟩
    rw [promptFlags_drive]
    obtain ⟨place, aligned, target⟩ := u.homingStep_keeps stall
    refine ⟨place, aligned, target, ?_, ?_, ?_, ?_, ?_⟩
    · rintro rfl
      rw [homingStep_stalled]
      exact ⟨rfl, rfl, rfl, rfl⟩
    · rintro rfl found
      rw [u.homingStep_found found]
      obtain ⟨count, since, state', -⟩ := homingFound_found (u.onDrive fun _ => u.homingStepped)
      exact ⟨count, since, homingFound_phasesOn _ rfl, state'⟩
    · rintro rfl clear hn
      rw [u.homingStep_fails clear hn]
      exact ⟨rfl, rfl, rfl⟩
    · rintro rfl clear hn
      rw [u.homingStep_goesOn clear hn]
      subst clear
      rfl
    · exact promptFlags_frame_drive (s := s.reach d)
        (drives_trans (onDrive_frame _ _) (homingStep_frame _ _))
  · show Host.Outcome.next _ = _
    rw [settle, s.takeExpiry_running d _ held]
    rfl

/-! ### Steps of a move (R90 to R95) -/

namespace State
variable (s : State) (p : Nat)

theorem completeMove_confirmation (ht : s.drive.target = 0) (h : 24 < s.drive.sinceStop) :
    s.completeMove.drive.closedNotConfirmed = true := by
  rw [s.completeMove_unconfirmed ht h]
  obtain ⟨-, -, -, -, -, -, closed⟩ :=
    (s.onDrive fun _ => { s.moveDone with closedNotConfirmed := true }).enterHoming_keeps false
  exact closed

theorem completeMove_homes (ht : s.drive.target = 0) (h : 24 < s.drive.sinceStop)
    (clear : s.drive.endStop = false) : s.completeMove.drive.closedNotConfirmed = true ∧
      s.completeMove.drive.state = .homing ∧ s.completeMove.drive.count = none := by
  refine ⟨s.completeMove_confirmation ht h, ?_⟩
  rw [s.completeMove_unconfirmed ht h, enterHoming_clear_drive _ _ (by exact clear)]
  exact ⟨rfl, rfl⟩

/-- A step of a move from count p, issued and not yet judged. -/
def moveIssued : State := (s.onDrive fun d => d.issue (decide (p < s.drive.target))).armStep

/-- A step of a move without a stall, counted and checked against the end-stop. -/
def moveCounted : State :=
  (s.moveIssued p).onDrive fun d =>
    if decide (p < s.drive.target) then d.openingStep p else d.closingStep p

theorem moveStep_stalled : s.moveStep p true = (s.moveIssued p).moveStalled := rfl

theorem moveStalled_first (h : s.drive.stallCount = 0) :
    s.moveStalled = (s.onDrive fun d => { d with stallCount := 1 }).enterHoming true :=
  if_pos (beq_iff_eq.mpr h)

theorem moveStalled_again (h : s.drive.stallCount ≠ 0) :
    s.moveStalled = (s.onDrive fun d => { d with stallCount := 2 }).enterFault .stall :=
  if_neg (by simpa using h)

theorem moveStep_stuck (h : 24 ≤ (s.moveCounted p).drive.stuckSteps) :
    s.moveStep p false = (s.moveCounted p).enterFault .endStopStuck :=
  if_pos h

theorem moveStep_completes (h : (s.moveCounted p).drive.stuckSteps < 24)
    (hc : (s.moveCounted p).drive.count = some (s.moveCounted p).drive.target) :
    s.moveStep p false = (s.moveCounted p).completeMove :=
  (if_neg (by exact Nat.not_le.mpr h)).trans (if_pos (beq_iff_eq.mpr hc))

theorem moveStep_goesOn (h : (s.moveCounted p).drive.stuckSteps < 24)
    (hc : (s.moveCounted p).drive.count ≠ some (s.moveCounted p).drive.target) :
    s.moveStep p false = s.moveCounted p :=
  (if_neg (by exact Nat.not_le.mpr h)).trans (if_neg (by exact fun k => hc (beq_iff_eq.mp k)))

theorem moveCounted_keeps : (s.moveCounted p).drive.target = s.drive.target ∧
    (s.moveCounted p).drive.phasePlace = (s.moveIssued p).drive.phasePlace := by
  unfold moveCounted Drive.openingStep Drive.closingStep
  simp only [onDrive_drive]
  split_ifs <;> exact ⟨rfl, rfl⟩

/-- However it is judged, a step of a move leaves the target and the pattern at the step issued. -/
theorem moveStep_keeps (stall : Bool) : (s.moveStep p stall).drive.target = s.drive.target ∧
    (s.moveStep p stall).drive.phasePlace = (s.moveIssued p).drive.phasePlace := by
  cases stall
  case true =>
    rw [moveStep_stalled]
    by_cases h : (s.moveIssued p).drive.stallCount = 0
    · rw [moveStalled_first _ h]
      obtain ⟨target, -, -, -, place, -⟩ :=
        ((s.moveIssued p).onDrive fun d => { d with stallCount := 1 }).enterHoming_keeps true
      exact ⟨target, place⟩
    · rw [moveStalled_again _ h]
      exact ⟨rfl, rfl⟩
  case false =>
    obtain ⟨target, place⟩ := s.moveCounted_keeps p
    rw [← target, ← place]
    rcases Nat.lt_or_ge (s.moveCounted p).drive.stuckSteps 24 with h | h
    · by_cases hc : (s.moveCounted p).drive.count = some (s.moveCounted p).drive.target
      · rw [s.moveStep_completes p h hc]
        obtain ⟨target, -, -, -, place, -⟩ := (s.moveCounted p).completeMove_keeps
        exact ⟨target, place⟩
      · rw [s.moveStep_goesOn p h hc]
        exact ⟨rfl, rfl⟩
    · rw [s.moveStep_stuck p h]
      exact ⟨rfl, rfl⟩

/-- An opening step at the end-stop counts the steps stuck there, any other clears them (R94). -/
theorem moveCounted_opens (h : p < s.drive.target) : (s.moveCounted p).drive =
    { (s.moveIssued p).drive with
      count := some (p + 1), sinceStop := if s.drive.endStop then 0 else saturate s.drive.sinceStop 1320
      stuckSteps := if s.drive.endStop then s.drive.stuckSteps + 1 else 0 } := by
  unfold moveCounted
  rw [decide_eq_true h]
  show Drive.openingStep (s.moveIssued p).drive p = _
  unfold Drive.openingStep
  by_cases found : s.drive.endStop = true
  · rw [if_pos found, if_pos found]
    exact if_pos found
  · rw [if_neg found, if_neg found]
    exact if_neg found

/-- A closing step that finds the end-stop is at count 0; a count above 24 was a slip (R92). -/
theorem moveCounted_shuts (h : s.drive.target < p) (found : s.drive.endStop = true) :
    (s.moveCounted p).drive = { (s.moveIssued p).drive with
      count := some 0, sinceStop := 0, stuckSteps := 0
      slip := s.drive.slip || decide (24 < p - 1)
      slipCount := if 24 < p - 1 then saturate s.drive.slipCount 255 else s.drive.slipCount } := by
  unfold moveCounted
  rw [decide_eq_false (by omega)]
  exact if_pos found

theorem moveCounted_closes (h : s.drive.target < p) (clear : s.drive.endStop = false) :
    (s.moveCounted p).drive = { (s.moveIssued p).drive with
      count := some (p - 1), sinceStop := saturate s.drive.sinceStop 1320, stuckSteps := 0 } := by
  unfold moveCounted
  rw [decide_eq_false (by omega)]
  exact if_neg (Bool.eq_false_iff.mp clear)

/-- An opening step is stuck at the 24th at the end-stop, else it counts, and is complete at the
target. -/
theorem moveStep_opens {p : Nat} (opens : p < s.drive.target) :
    (s.drive.endStop = true → s.drive.stuckSteps = 23 →
      (s.moveStep p false).drive.state = .fault ∧ (s.moveStep p false).drive.cause = .endStopStuck ∧
        (s.moveStep p false).drive.count = none) ∧
    ((s.drive.endStop = false ∨ s.drive.stuckSteps < 23) →
      (s.moveStep p false).drive.count = some (p + 1) ∧
      (s.moveStep p false).drive.phasePlace = s.drive.phasePlace + 1 ∧
      (s.moveStep p false).drive.stuckSteps =
        (if s.drive.endStop then s.drive.stuckSteps + 1 else 0) ∧
      (s.moveStep p false).drive.state =
        (if p + 1 = s.drive.target then .idle else s.drive.state) ∧
      (p + 1 = s.drive.target →
        (s.moveStep p false).drive.completed = (s.drive.completed + 1) % 256 ∧
        (s.moveStep p false).drive.settle = .running (s.now + 200)) ∧
      (s.moveStep p false).drive.slip = s.drive.slip) := by
  have counted := s.moveCounted_opens p opens
  refine ⟨fun found last => ?_, fun free => ?_⟩
  · rw [s.moveStep_stuck p (by rw [counted, found, last]; exact Nat.le_refl 24)]
    exact ⟨rfl, rfl, rfl⟩
  · have few : (s.moveCounted p).drive.stuckSteps < 24 := by
      rw [counted]
      show (if s.drive.endStop then s.drive.stuckSteps + 1 else 0) < 24
      split
      · exact Nat.add_lt_add_right (free.resolve_left (by simpa)) 1
      · decide
    have ahead : (s.moveIssued p).drive.phasePlace = s.drive.phasePlace + 1 :=
      if_pos (decide_eq_true opens)
    by_cases there : p + 1 = s.drive.target
    · rw [s.moveStep_completes p few (by rw [counted, there]; rfl),
        completeMove_rests _ (.inl (by rw [counted]; exact (Nat.zero_lt_of_lt opens).ne')), moveDone,
        counted, if_pos there]
      exact ⟨rfl, ahead, rfl, rfl, fun _ => ⟨rfl, rfl⟩, rfl⟩
    · rw [s.moveStep_goesOn p few (by rw [counted]; exact fun k => there (Option.some.inj k)), counted,
        if_neg there]
      exact ⟨rfl, ahead, rfl, rfl, fun k => absurd k there, rfl⟩

/-- A closing step that finds the end-stop is at count 0, complete only if the move is to 0. -/
theorem moveStep_shuts {p : Nat} (closes : s.drive.target < p) (found : s.drive.endStop = true) :
    (s.moveStep p false).drive.count = some 0 ∧ (s.moveStep p false).drive.sinceStop = 0 ∧
    (s.moveStep p false).drive.slip = (s.drive.slip || decide (24 < p - 1)) ∧
    (s.moveStep p false).drive.slipCount =
      (if 24 < p - 1 then min 255 (s.drive.slipCount + 1) else s.drive.slipCount) ∧
    (s.moveStep p false).drive.state = (if s.drive.target = 0 then .idle else s.drive.state) := by
  have counted := s.moveCounted_shuts p closes found
  have few : (s.moveCounted p).drive.stuckSteps < 24 := by
    rw [counted]
    exact (by decide : 0 < 24)
  by_cases there : s.drive.target = 0
  · rw [s.moveStep_completes p few (by rw [counted]; exact congrArg _ there.symm),
      completeMove_rests _ (.inr (by rw [counted]; exact Nat.zero_le 24)), moveDone, counted,
      if_pos there]
    exact ⟨rfl, rfl, rfl, rfl, rfl⟩
  · rw [s.moveStep_goesOn p few
      (by rw [counted]; exact fun k => there (Option.some.inj k).symm), counted, if_neg there]
    exact ⟨rfl, rfl, rfl, rfl, rfl⟩

/-- A closing step without the end-stop goes on, is complete at its target, or is an unconfirmed close
that homes (R93). -/
theorem moveStep_closes {p : Nat} (closes : s.drive.target < p) (clear : s.drive.endStop = false) :
    (p - 1 ≠ s.drive.target → (s.moveStep p false).drive.count = some (p - 1) ∧
      (s.moveStep p false).drive.state = s.drive.state) ∧
    (p - 1 = s.drive.target → (s.drive.target ≠ 0 ∨ s.drive.sinceStop < 24) →
      (s.moveStep p false).drive.count = some (p - 1) ∧ (s.moveStep p false).drive.state = .idle ∧
      (s.moveStep p false).drive.closedNotConfirmed = s.drive.closedNotConfirmed) ∧
    (p = 1 → s.drive.target = 0 → 24 ≤ s.drive.sinceStop →
      (s.moveStep p false).drive.closedNotConfirmed = true ∧
      (s.moveStep p false).drive.state = .homing ∧ (s.moveStep p false).drive.count = none ∧
      (s.moveStep p false).drive.completed = (s.drive.completed + 1) % 256) := by
  have counted := s.moveCounted_closes p closes clear
  have few : (s.moveCounted p).drive.stuckSteps < 24 := by
    rw [counted]
    exact (by decide : 0 < 24)
  have since : (s.moveCounted p).drive.sinceStop = min 1320 (s.drive.sinceStop + 1) := by
    rw [counted]
    rfl
  have aims : (s.moveCounted p).drive.target = s.drive.target := by
    rw [counted]
    rfl
  have completes (there : p - 1 = s.drive.target) : s.moveStep p false = (s.moveCounted p).completeMove :=
    s.moveStep_completes p few (by rw [counted]; exact congrArg _ there)
  refine ⟨fun there => ?_, fun there timely => ?_, fun one there late => ?_⟩
  · rw [s.moveStep_goesOn p few (by rw [counted]; exact fun k => there (Option.some.inj k)), counted]
    exact ⟨rfl, rfl⟩
  · rw [completes there, completeMove_rests _ (by omega), moveDone, counted]
    exact ⟨rfl, rfl, rfl⟩
  · obtain ⟨unconfirmed, homing, lost⟩ := (s.moveCounted p).completeMove_homes (aims.trans there)
      (by omega) (by rw [counted]; exact clear)
    obtain ⟨-, -, -, -, -, completed, -⟩ := (s.moveCounted p).completeMove_keeps
    rw [completes (by omega)]
    refine ⟨unconfirmed, homing, lost, completed.trans ?_⟩
    rw [counted]
    rfl

end State

open State in
/-- Settles O39: the stall first, then the count, the end-stop and the completion, an opening and a
closing step apart. -/
theorem moveStepIsJudged : Obligations.MoveStepIsJudged := by
  intro s d p stall endStop held state count away step unstuck
  set u := (s.reach d).senseEndStop endStop with hu
  have run : exec (.moveStep stall endStop) s =
      .next ((u.moveStep p stall).promptFlags (s.reach d)) := by
    show Host.Outcome.next _ = _
    rw [step, s.takeExpiry_running d _ held]
    refine congrArg _ ?_
    unfold moves
    rw [show (s.reach d).drive.state = _ from state, show (s.reach d).drive.count = _ from count]
    exact if_neg (by simpa using away)
  refine ⟨_, run, ?_⟩
  rw [promptFlags_drive]
  obtain ⟨target, place⟩ := u.moveStep_keeps p stall
  refine ⟨target, fun aligned => ?_, ?_, ?_, ?_, ?_, ?_, ?_, ?_⟩
  · rw [place]
    show (if decide (p < s.drive.target) then _ else if s.drive.aligned then _ else _) = _
    rw [aligned]
    simp
    rfl
  · rintro rfl first rfl
    rw [moveStep_stalled, (u.moveIssued p).moveStalled_first first, enterHoming_clear_drive _ _ rfl]
    exact ⟨rfl, rfl, rfl, rfl⟩
  · rintro rfl first rfl
    rw [moveStep_stalled, (u.moveIssued p).moveStalled_first first]
    obtain ⟨count', since, state', -⟩ := enterHoming_foundStop
      ((u.moveIssued p).onDrive fun d => { d with stallCount := 1 }) true rfl
    exact ⟨count', since, state'⟩
  · rintro rfl again
    rw [moveStep_stalled, (u.moveIssued p).moveStalled_again again]
    exact ⟨rfl, rfl, rfl, rfl, rfl⟩
  · rintro rfl opens
    obtain ⟨stuck, counts⟩ := u.moveStep_opens opens
    rw [show u.drive.state = _ from state] at counts
    exact ⟨stuck, counts⟩
  · rintro rfl closes found
    have shuts := u.moveStep_shuts closes found
    rw [show u.drive.state = _ from state] at shuts
    exact shuts
  · rintro rfl closes clear
    obtain ⟨goesOn, rests, homes⟩ := u.moveStep_closes closes clear
    rw [show u.drive.state = _ from state] at goesOn
    exact ⟨goesOn, rests, homes⟩
  · exact promptFlags_frame_drive (s := s.reach d)
      (drives_trans (onDrive_frame _ _) (moveStep_frame _ _ _))

/-! ### The end of a hold (R99) -/

open State in
/-- Settles O40: the hold's end is the standing position taken as the target, by the drive's state. -/
theorem holdEndsAtTheStandingPosition : Obligations.HoldEndsAtTheStandingPosition := by
  intro s d endStop held hold
  set u := ((s.reach d).senseEndStop endStop).onDrive fun d => { d with hold := .stopped } with hu
  set x := s.share.standing
  have run : exec (.holdTimerExpiry endStop) s = .next ((u.takeTarget x).promptFlags (s.reach d)) := by
    show Host.Outcome.next _ = _
    rw [hold, s.takeExpiry_running d _ held]
    rfl
  refine ⟨_, run, ?_⟩
  rw [promptFlags_drive]
  obtain ⟨target, hold', -⟩ := u.takeTarget_keeps x
  refine ⟨hold', target, fun state count => ?_, fun state count due => ?_, fun state count due => ?_,
    fun state count => ?_, fun state => ?_, ?_⟩
  · rw [u.takeTarget_stored x (.inr (.inr (.inr (.inr ⟨state, count⟩))))]
    exact ⟨state, rfl⟩
  · rw [u.takeTarget_moves x state count due]
    exact ⟨rfl, rfl, rfl, rfl⟩
  · rw [u.takeTarget_homes x state count due]
    obtain ⟨-, due', -⟩ := (u.aimed x).enterHoming_counters
    refine ⟨due', fun clear => ?_, fun found => ?_⟩
    · rw [(u.aimed x).enterHoming_clear_drive false clear]
      exact ⟨rfl, rfl⟩
    · obtain ⟨count', -, state', -⟩ := (u.aimed x).enterHoming_foundStop false found
      exact ⟨count', state'⟩
  · rw [u.takeTarget_completes x state count]
    obtain ⟨-, -, -, -, -, completed, stalls⟩ := (u.aimed x).completeMove_keeps
    refine ⟨completed, stalls, fun timely => ?_, fun there late => ?_⟩
    · rw [(u.aimed x).completeMove_rests timely]
      exact ⟨rfl, rfl, rfl, rfl, rfl⟩
    · refine ⟨(u.aimed x).completeMove_confirmation there late, fun clear => ?_, fun found => ?_⟩
      · obtain ⟨-, homing, lost⟩ := (u.aimed x).completeMove_homes there late clear
        exact ⟨homing, lost⟩
      · rw [(u.aimed x).completeMove_unconfirmed there late]
        obtain ⟨count', -, state', -⟩ := enterHoming_foundStop
          ((u.aimed x).onDrive fun _ => { (u.aimed x).moveDone with closedNotConfirmed := true })
          false found
        exact ⟨state'.trans (if_pos there), count'⟩
  · rw [u.takeTarget_stored x (by tauto)]
    rfl
  · exact promptFlags_frame_drive (s := s.reach d)
      (drives_trans (onDrive_frame _ _) (endHold_frame _))

end Sys2Proof.Machine
end

section
/-! PROOF. The CLEAR, HOLD and REHOME orders (10.3). -/

namespace Sys2Proof.Machine

/-! ### An own announcement takes no room from a reply (R165) -/

namespace State
variable (s : State)

theorem onAnnouncer_line (f : Announcer → Announcer) : (s.onAnnouncer f).line = s.line := by
  unfold onAnnouncer
  split <;> rfl

theorem placeAnnouncement_replies : s.placeAnnouncement.line.replies = s.line.replies := by
  unfold placeAnnouncement
  split_ifs
  · exact congrArg _ (s.onAnnouncer_line _)
  · rw [onAnnouncer_line]
    unfold Line.replies
    rcases s.placePeriodic_queue (ownKind s.role) 0 with h | ⟨-, -, h⟩ <;> rw [h]
    cases s.role <;> simp [ownKind, TxKind.periodic]

theorem promptCause_replies : s.promptCause.line.replies = s.line.replies := by
  unfold promptCause
  split_ifs
  · rfl
  · rfl
  · exact congrArg _ (s.onAnnouncer_line _)
  · exact congrArg _ (s.onAnnouncer_line _)
  · exact s.placeAnnouncement_replies

theorem promptFlags_replies (old : State) : (s.promptFlags old).line.replies = s.line.replies := by
  unfold promptFlags
  split
  all_goals
    rcases s.andIf_cases _ promptCause with ⟨-, h⟩ | ⟨-, h⟩ <;> rw [h]
    exact s.promptCause_replies

/-! ### What the orders do to the drive (R98, R100, R101) -/

/-- A target taken takes no drive into or out of FAULT. -/
theorem takeTarget_fault (x : Nat) :
    (s.takeTarget x).drive.state = .fault ↔ s.drive.state = .fault := by
  have completed (u : State) : u.completeMove.drive.state ≠ .fault := by
    by_cases h : u.drive.target ≠ 0 ∨ u.drive.sinceStop ≤ 24
    · rw [u.completeMove_rests h]
      exact DriveState.noConfusion
    · rw [u.completeMove_unconfirmed (by omega) (by omega)]
      exact enterHoming_state_ne_fault _ _
  by_cases hc : s.drive.count = some x
  · cases hs : s.drive.state
    case moving =>
      rw [s.takeTarget_completes x hs hc]
      exact ⟨fun k => absurd k (completed _), fun k => DriveState.noConfusion k⟩
    all_goals
      rw [s.takeTarget_stored x (by simp [hs, hc]), ← hs]
      rfl
  · cases hs : s.drive.state
    case idle =>
      refine ⟨fun k => absurd k ?_, fun k => DriveState.noConfusion k⟩
      cases due : s.drive.rehomeDue
      · rw [s.takeTarget_moves x hs hc due]
        exact DriveState.noConfusion
      · rw [s.takeTarget_homes x hs hc due]
        exact enterHoming_state_ne_fault _ _
    all_goals
      rw [s.takeTarget_stored x (by simp [hs, hc]), ← hs]
      rfl

/-- Only a move that completes can be found unconfirmed. -/
theorem takeTarget_closedNotConfirmed (x : Nat) (h : s.drive.state ≠ .moving) :
    (s.takeTarget x).drive.closedNotConfirmed = s.drive.closedNotConfirmed := by
  cases hs : s.drive.state
  case moving => exact absurd hs h
  case idle =>
    by_cases hc : s.drive.count = some x
    · rw [s.takeTarget_stored x (by simp [hs, hc])]
      rfl
    · cases due : s.drive.rehomeDue
      · rw [s.takeTarget_moves x hs hc due]
      · rw [s.takeTarget_homes x hs hc due]
        obtain ⟨-, -, -, -, -, -, closed⟩ := (s.aimed x).enterHoming_keeps false
        exact closed
  all_goals
    rw [s.takeTarget_stored x (by simp [hs])]
    rfl

/-- FAULT is left into a homing with its cause and its stalls cleared (R96). -/
theorem leaveFault_left : s.leaveFault.drive.cause = .none ∧ s.leaveFault.drive.stallCount = 0 ∧
    s.leaveFault.drive.target = s.drive.target ∧ s.leaveFault.drive.hold = s.drive.hold ∧
    s.leaveFault.drive.slip = s.drive.slip ∧ s.leaveFault.drive.slipCount = s.drive.slipCount ∧
    s.leaveFault.drive.closedNotConfirmed = s.drive.closedNotConfirmed := by
  set u := s.onDrive fun d => { d with cause := .none, stallCount := 0, retry := false }
  obtain ⟨target, hold, slip, slipCount, -, cause, closed⟩ := u.enterHoming_keeps false
  obtain ⟨-, -, stalls⟩ := u.enterHoming_counters
  exact ⟨cause, stalls rfl, target, hold, slip, slipCount, closed⟩

/-- The drive's latches cleared. -/
def latchesCleared : State :=
  s.onDrive fun d => { d with slip := false, closedNotConfirmed := false }

/-- The drive's latches cleared and its hold ended. -/
def unheld : State := s.latchesCleared.andIf s.drive.hold.isRunning endHold

theorem clearDrive_eq : s.clearDrive = s.unheld.andIf (s.unheld.drive.state == .fault) leaveFault := rfl

theorem unheld_fault : s.unheld.drive.state = .fault ↔ s.drive.state = .fault := by
  unfold unheld
  rcases s.latchesCleared.andIf_cases s.drive.hold.isRunning endHold with ⟨-, h⟩ | ⟨-, h⟩ <;> rw [h]
  · exact takeTarget_fault _ _
  · rfl

theorem unheld_cleared : s.unheld.drive.slip = false ∧ s.unheld.drive.slipCount = s.drive.slipCount ∧
    ((s.drive.hold.isRunning = false ∨ s.drive.state ≠ .moving) →
      s.unheld.drive.closedNotConfirmed = false) ∧
    (s.drive.hold.isRunning = true →
      s.unheld.drive.hold = .stopped ∧ s.unheld.drive.target = s.share.standing) := by
  unfold unheld
  cases hold : s.drive.hold.isRunning
  · exact ⟨rfl, rfl, fun _ => rfl, Bool.noConfusion⟩
  · set v := s.latchesCleared.onDrive fun d => { d with hold := .stopped }
    obtain ⟨target, hold', slip, slipCount⟩ := v.takeTarget_keeps s.share.standing
    refine ⟨slip, slipCount, fun h => ?_, fun _ => ⟨hold', target⟩⟩
    exact v.takeTarget_closedNotConfirmed _ (h.resolve_left Bool.noConfusion)

/-- A hold that ends in FAULT leaves the end-stop's level as read. -/
theorem unheld_endStop (fault : s.drive.state = .fault) :
    s.unheld.drive.endStop = s.drive.endStop := by
  unfold unheld
  cases s.drive.hold.isRunning
  · rfl
  · set v := s.latchesCleared.onDrive fun d => { d with hold := .stopped }
    have stored := v.takeTarget_stored s.share.standing (.inr (.inr (.inl fault)))
    show (v.takeTarget s.share.standing).drive.endStop = _
    rw [stored]
    rfl

theorem clearDrive_sound (free : s.drive.hold.isRunning = false) (sound : s.drive.state ≠ .fault) :
    s.clearDrive = s.latchesCleared := by
  have stands : s.unheld = s.latchesCleared := by
    unfold unheld
    rw [free]
    rfl
  rw [clearDrive_eq, beq_eq_false_iff_ne.mpr (mt s.unheld_fault.mp sound), stands]
  rfl

theorem clearDrive_faulted (fault : s.drive.state = .fault) : s.clearDrive = s.unheld.leaveFault := by
  rw [clearDrive_eq, beq_iff_eq.mpr (s.unheld_fault.mpr fault)]
  rfl

/-- Where FAULT is left, what the hold's end and the cleared latches gave stays. -/
theorem clearDrive_cleared : s.clearDrive.drive.slip = false ∧
    s.clearDrive.drive.slipCount = s.drive.slipCount ∧
    ((s.drive.hold.isRunning = false ∨ s.drive.state ≠ .moving) →
      s.clearDrive.drive.closedNotConfirmed = false) ∧
    (s.drive.hold.isRunning = true →
      s.clearDrive.drive.hold = .stopped ∧ s.clearDrive.drive.target = s.share.standing) := by
  rw [clearDrive_eq]
  rcases s.unheld.andIf_cases _ leaveFault with ⟨-, h⟩ | ⟨-, h⟩ <;> rw [h]
  · obtain ⟨-, -, target, hold, slip, slipCount, closed⟩ := s.unheld.leaveFault_left
    rw [target, hold, slip, slipCount, closed]
    exact s.unheld_cleared
  · exact s.unheld_cleared

end State

namespace State
variable (s : State)

theorem homeRequest_ignored (h : s.drive.state = .unhomed ∨ s.drive.state = .homing) :
    s.homeRequest = s := by
  unfold homeRequest
  rcases h with h | h <;> rw [h]

/-- A HOME request of a homed or faulted drive enters HOMING from a drive with the same orders. -/
theorem homeRequest_homes
    (h : s.drive.state = .idle ∨ s.drive.state = .moving ∨ s.drive.state = .fault) :
    ∃ u : State, s.homeRequest = u.enterHoming false ∧ u.now = s.now ∧
      u.drive.target = s.drive.target ∧ u.drive.hold = s.drive.hold ∧ u.drive.slip = s.drive.slip ∧
      u.drive.endStop = s.drive.endStop := by
  unfold homeRequest
  rcases h with h | h | h <;> rw [h] <;> exact ⟨_, rfl, rfl, rfl, rfl, rfl, rfl⟩

end State

/-! ### The frost lockout standing (R177) -/

/-- In the plant role the frost lockout standing is cleared, and the sequencer is told. -/
theorem State.clearLockout_told {s : State} (plant : s.role = .plant) :
    s.clearLockout.plant.arb = { s.plant.arb with frostLockout := false } ∧
      toldPlant s s.clearLockout := by
  set w := s.onPlant fun p => { p with arb := { p.arb with frostLockout := false } } with hw
  have carried : s.clearLockout = w.plantTrigger := by
    unfold clearLockout
    rw [plant]
  have told := w.plantTrigger_told plant
  obtain ⟨arb, -, -⟩ := w.plantTrigger_changes.of_not_mem (i := .sequencer) (by decide)
  rw [carried]
  exact ⟨arb, told⟩

/-! ### The orders -/

namespace State
variable {s t : State} {f : Frame} {rest : List Frame} {r : Request}

/-- An order carried out is answered DONE where a RESULT can be placed. -/
theorem answer_mem (online : t.member.station = .online) (room : t.line.replies < 3)
    (hr : f.request = some r) (code : ResultCode) : resultEntry f.src.toNat
      [byte r.code, byte code.code, 0] .plain ∈ (t.answer f code [] .plain).1.line.queue := by
  obtain ⟨-, -, line⟩ := answer_line online room f code [] .plain
  rw [line, (f.request_kind hr).2]
  exact List.mem_append_right _ (List.mem_singleton_self _)

theorem answer_drive (code : ResultCode) : (t.answer f code [] .plain).1.drive = t.drive :=
  (t.answer_changes f code [] .plain).of_not_mem (i := .drive) (by decide)

theorem answer_plant (code : ResultCode) : (t.answer f code [] .plain).1.plant = t.plant := by
  obtain ⟨l, h⟩ := t.placeReply_frame .result f.src.toNat
    (resultBody (byteAt f.body 0) code false false []) .plain
  exact (congrArg plant h).trans rfl

/-- The prompted state is answered as the drive's state would be: it has the same room. -/
theorem prompted_answered {old : State} (same : s.sameBut [.drive, .sequencer, .plantFlight] t)
    (online : s.member.station = .online) (room : s.line.replies < 3) (hr : f.request = some r) :
    resultEntry f.src.toNat [byte r.code, 0, 0] .plain ∈
      ((t.promptFlags old).report f []).line.queue := by
  have station : (t.promptFlags old).member.station = s.member.station :=
    ((same.mono (b := [.drive, .sequencer, .plantFlight, .wire, .announcer]) (by decide)).trans
      ((t.promptFlags_changes old).mono (by decide))).of_not_mem (i := .station) (by decide)
  refine answer_mem (station.trans online) ?_ hr .done
  rw [promptFlags_replies]
  unfold Line.replies at room ⊢
  rwa [queue_of_sameBut same (by decide)]

end State

open State in
/-- Settles O24: the drive is cleared, then the frost lockout standing, then the flags may prompt, and
the answer is placed. -/
theorem clearOrderFreesTheDrive : Obligations.ClearOrderFreesTheDrive := by
  intro s f rest endStop ordered request dump wf
  set u := (s.taken rest).senseEndStop endStop with hu
  set v := u.clearDrive.clearLockout with hv
  have run : exec (.clear endStop) s = .next ((v.promptFlags (s.taken rest)).report f []) := by
    refine congrArg Host.Outcome.next (serve_carried (carry := fun g u => u.carryClear g endStop)
      ordered request (turnedAway_none request (.inl dump) (fun h => Request.noConfusion h) rfl) ?_)
    obtain ⟨-, -, address, -⟩ :=
      ((s.taken rest).carryClear_changes f endStop).of_not_mem (i := .fixed) (by decide)
    exact address
  have clears : u.clearDrive.sameBut [.sequencer, .plantFlight] v := clearLockout_changes _
  have cleared : (s.taken rest).sameBut [.drive, .sequencer, .plantFlight] v :=
    ((sameBut_of_drives (drives_trans ((s.taken rest).onDrive_frame _) (clearDrive_frame _))).mono
      (by decide)).trans (clears.mono (by decide))
  have drive : v.drive = u.clearDrive.drive := clears.of_not_mem (i := .drive) (by decide)
  refine ⟨_, run, fun online room => prompted_answered cleared online room request, ?_⟩
  have changes := (s.taken rest).carryClear_changes f endStop
  have frame := frame_of_driveItems changes (by decide)
  have now : ((s.taken rest).carryClear f endStop).now = s.now :=
    changes.of_not_mem (i := .clock) (by decide)
  rw [now] at frame
  rw [show ((v.promptFlags (s.taken rest)).report f []).drive = _ from answer_drive _,
    promptFlags_drive, drive]
  obtain ⟨slip, slipCount, closed, unheld⟩ := u.clearDrive_cleared
  refine ⟨slip, slipCount, closed, fun free sound => ?_, unheld, fun fault => ?_, fun plant => ?_,
    ?_⟩
  · rw [u.clearDrive_sound free sound]
    rfl
  · rw [u.clearDrive_faulted fault]
    obtain ⟨cause, stalls, target, -⟩ := u.unheld.leaveFault_left
    have stop : u.unheld.drive.endStop = endStop := u.unheld_endStop fault
    refine ⟨cause, stalls, fun clear => ?_, fun found => ?_⟩
    · unfold leaveFault
      rw [enterHoming_clear_drive _ _ (by exact stop.trans clear)]
      rfl
    · obtain ⟨count, -, state, -⟩ := enterHoming_foundStop
        (u.unheld.onDrive fun d => { d with cause := .none, stallCount := 0, retry := false }) false
        (by exact stop.trans found)
      rw [target]
      exact ⟨count, state⟩
  · obtain ⟨arb, told⟩ := clearLockout_told (s := u.clearDrive)
      ((clearDrive_frame u).elim fun d h => by rw [h]; exact plant)
    have asked : u.clearDrive.plant = s.plant :=
      by
      obtain ⟨d, h⟩ := clearDrive_frame u
      rw [h]
      rfl
    obtain ⟨arb', -⟩ := (v.promptFlags_changes (s.taken rest)).of_not_mem (i := .sequencer) (by decide)
    obtain ⟨flight, mark⟩ :=
      (v.promptFlags_changes (s.taken rest)).of_not_mem (i := .plantFlight) (by decide)
    unfold toldPlant at told ⊢
    rw [show ((v.promptFlags (s.taken rest)).report f []).plant = _ from answer_plant _, arb', flight,
      mark, ← asked]
    exact ⟨arb, told⟩
  · have settled : ((v.promptFlags (s.taken rest)).report f []).drive = u.clearDrive.drive := by
      rw [show ((v.promptFlags (s.taken rest)).report f []).drive = _ from answer_drive _,
        promptFlags_drive, drive]
    rw [← settled]
    exact frame

/-- The state after a HOLD or REHOME order carried out, in the drive and in what a prompt reaches. -/
theorem State.ordered_frame {s t : State} {rest : List Frame} {a : List Item}
    (h : (s.taken rest).sameBut a t) (ha : a ⊆ [.drive, .announcer, .wire, .latches, .counters]) :
    t = { s with line := t.line, drive := t.drive, demand := t.demand, plant := t.plant } := by
  have frame := frame_of_driveItems (h.mono ha) (by decide)
  have now : t.now = s.now := (h.mono ha).of_not_mem (i := .clock) (by decide)
  rw [now] at frame
  exact frame

open State in
/-- Settles O25: the drive takes the order, the flags may prompt, and the answer is placed. -/
theorem holdAndRehomeOrders : Obligations.HoldAndRehomeOrders := by
  refine ⟨fun s f rest endStop ordered request dump long => ?_,
    fun s f rest endStop ordered request dump => ?_⟩
  · set u := (s.taken rest).senseEndStop endStop with hu
    have changes := (s.taken rest).carryHold_changes f endStop
    have run : exec (.hold endStop) s = .next ((s.taken rest).carryHold f endStop) := by
      refine congrArg Host.Outcome.next (serve_carried (carry := fun g u => u.carryHold g endStop)
        ordered request (turnedAway_none request (.inl dump) (fun h => Request.noConfusion h)
          (decide_eq_true long)) ?_)
      obtain ⟨-, -, address, -⟩ := changes.of_not_mem (i := .fixed) (by decide)
      exact address
    refine ⟨_, run, ordered_frame changes (by decide), fun within => ?_, fun beyond => ?_⟩
    · have taken : (s.taken rest).carryHold f endStop =
          ((u.startHold (nat2 f.body 1)).promptFlags (s.taken rest)).report f [] := if_pos within
      have same : (s.taken rest).sameBut [.drive, .sequencer, .plantFlight]
          (u.startHold (nat2 f.body 1)) :=
        (sameBut_of_drives (drives_trans ((s.taken rest).onDrive_frame _) (startHold_frame _ _))).mono
          (by decide)
      obtain ⟨target, hold, -⟩ :=
        (u.onDrive fun d => { d with hold := u.timer Config.holdMs }).takeTarget_keeps (nat2 f.body 1)
      rw [taken]
      refine ⟨fun online room => prompted_answered same online room request, ?_⟩
      rw [show ((promptFlags _ (s.taken rest)).report f []).drive = _ from answer_drive _,
        promptFlags_drive]
      exact ⟨hold, target⟩
    · have refused : (s.taken rest).carryHold f endStop =
          ((s.taken rest).answer f .range [] .plain).1 := if_neg (Nat.not_le.mpr beyond)
      rw [refused, answer_drive]
      exact ⟨fun online room => answer_mem (t := s.taken rest) online room request .range, rfl⟩
  · set u := (s.taken rest).senseEndStop endStop with hu
    have changes := (s.taken rest).carryRehome_changes f endStop
    have run : exec (.rehome endStop) s = .next ((s.taken rest).carryRehome f endStop) := by
      refine congrArg Host.Outcome.next (serve_carried (carry := fun g u => u.carryRehome g endStop)
        ordered request (turnedAway_none request (.inl dump) (fun h => Request.noConfusion h) rfl) ?_)
      obtain ⟨-, -, address, -⟩ := changes.of_not_mem (i := .fixed) (by decide)
      exact address
    have same : (s.taken rest).sameBut [.drive, .sequencer, .plantFlight] u.homeRequest :=
      (sameBut_of_drives (drives_trans ((s.taken rest).onDrive_frame _) (homeRequest_frame _))).mono
        (by decide)
    refine ⟨_, run, ordered_frame changes (by decide),
      fun online room => prompted_answered same online room request, ?_⟩
    rw [show ((s.taken rest).carryRehome f endStop).drive = _ from answer_drive _, promptFlags_drive]
    by_cases homes : s.drive.state = .idle ∨ s.drive.state = .moving ∨ s.drive.state = .fault
    · obtain ⟨w, entered, now, target, hold, slip, stop⟩ := u.homeRequest_homes homes
      obtain ⟨target', hold', slip', -⟩ := w.enterHoming_keeps false
      obtain ⟨-, due, -⟩ := w.enterHoming_counters
      rw [entered]
      refine ⟨target'.trans target, hold'.trans hold, slip'.trans slip, fun stays => ?_,
        fun _ => ⟨due, fun clear => ?_, fun found => ?_⟩⟩
      · rcases homes with h | h | h <;> rw [h] at stays <;> simp at stays
      · rw [w.enterHoming_clear_drive false (stop.trans clear)]
        exact ⟨rfl, rfl, rfl, congrArg (fun n => Timer.running (n + 5)) now⟩
      · obtain ⟨count, since, state, -⟩ := w.enterHoming_foundStop false (stop.trans found)
        rw [show s.drive.target = _ from target.symm]
        exact ⟨count, since, state⟩
    · have stays : s.drive.state = .unhomed ∨ s.drive.state = .homing := by
        cases h : s.drive.state <;> simp_all
      rw [u.homeRequest_ignored stays]
      exact ⟨rfl, rfl, rfl, fun _ => rfl, fun k => absurd k homes⟩

end Sys2Proof.Machine
end

section
/-! PROOF. The end of a share reckoning (04). -/

namespace Sys2Proof.Machine

namespace State
variable {s t : State}

/-- The state after, changed in the blocks a share reckoning's end and a prompt reach. -/
theorem frame_of_shareItems {a : List Item} (h : s.sameBut a t)
    (ha : a ⊆ [.clock, .shareFlight, .shareResult, .unplaced, .drive, .wire, .announcer]) :
    t = { s with
      now := t.now, share := t.share, drive := t.drive, plant := t.plant
      demand := t.demand, line := t.line } := by
  refine eq_of_same fun i => ?_
  have other := (h.mono ha).of_not_mem (i := i)
  cases i
  case fixed | station | stationTimers | aging | roster | waits | memberLatches | restarts
      | channels | contacts | sample | setpoints | responder =>
    exact other (by decide)
  all_goals simp [Item.same]

/-! ### In the zone role an announcement leaves the plant block -/

theorem onAnnouncer_plant (zone : s.role = .zone) (f : Announcer → Announcer) :
    (s.onAnnouncer f).plant = s.plant := by
  unfold onAnnouncer
  rw [zone]
  rfl

theorem placeAnnouncement_plant (zone : s.role = .zone) : s.placeAnnouncement.plant = s.plant := by
  unfold placeAnnouncement
  split_ifs
  · exact onAnnouncer_plant zone _
  · obtain ⟨l, h⟩ := s.placePeriodic_frame (ownKind s.role) 0
    rw [h]
    exact onAnnouncer_plant (by exact zone) _

theorem promptCause_plant (zone : s.role = .zone) : s.promptCause.plant = s.plant := by
  unfold promptCause
  split_ifs
  · rfl
  · rfl
  · exact onAnnouncer_plant zone _
  · exact onAnnouncer_plant zone _
  · exact placeAnnouncement_plant zone

theorem promptFlags_plant (zone : s.role = .zone) (old : State) :
    (s.promptFlags old).plant = s.plant := by
  unfold promptFlags
  rw [zone]
  rcases s.andIf_cases (s.zoneFlags != old.zoneFlags) promptCause with ⟨-, h⟩ | ⟨-, h⟩
  · exact (congrArg plant h).trans (promptCause_plant zone)
  · exact congrArg plant h

/-! ### The outcome stored and handed over (R65, R79) -/

/-- The state with a reckoning's outcome stored. -/
def shareStored (s : State) (f : ShareFlight) : State :=
  (s.onShare fun u =>
    { flight := none, mark := false, record := s.shareResult f
      standing := (s.shareResult f).position.getD u.standing }).handUnplaced (s.shareResult f).unplaced

/-- The state with the position handed to the drive, where it is handed over. -/
def shareHanded (s : State) (f : ShareFlight) : State :=
  match (s.shareResult f).position, (s.shareResult f).handed with
  | some p, some true => (s.shareStored f).handTarget p
  | _, _ => s.shareStored f

theorem endShare_eq (s : State) (f : ShareFlight) :
    s.endShare f = (s.shareHanded f).andIf s.share.mark beginShare := rfl

theorem shareHanded_drives (s : State) (f : ShareFlight) :
    (s.shareStored f).drives (s.shareHanded f) := by
  unfold shareHanded
  split
  · exact handTarget_frame _ _
  · exact drives_refl _

theorem shareStored_share (s : State) (f : ShareFlight) : (s.shareStored f).share =
    { flight := none, mark := false, record := s.shareResult f
      standing := (s.shareResult f).position.getD s.share.standing } := by
  unfold shareStored handUnplaced
  split <;> rfl

theorem shareStored_drive (s : State) (f : ShareFlight) : (s.shareStored f).drive = s.drive := by
  unfold shareStored handUnplaced
  split <;> rfl

theorem shareStored_plant (s : State) (f : ShareFlight) (plant : s.role = .plant) :
    (s.shareStored f).plant = { s.plant with unplaced := (s.shareResult f).unplaced } := by
  unfold shareStored handUnplaced
  rw [show (s.onShare _).role = _ from plant]
  rfl

theorem shareStored_plant_zone (s : State) (f : ShareFlight) (zone : s.role = .zone) :
    (s.shareStored f).plant = s.plant := by
  unfold shareStored handUnplaced
  rw [show (s.onShare _).role = _ from zone]
  rfl

/-- A reckoning's end stores its outcome, and begins one more exactly if the mark was set. -/
theorem endShare_share (s : State) (f : ShareFlight) :
    (s.endShare f).share.record = s.shareResult f ∧
      (s.endShare f).share.standing = (s.shareResult f).position.getD s.share.standing ∧
      (s.endShare f).share.mark = false ∧
      (s.endShare f).share.flight.isSome = s.share.mark := by
  obtain ⟨d, h⟩ := s.shareHanded_drives f
  rw [endShare_eq, h]
  cases s.share.mark
  · show (s.shareStored f).share.record = _ ∧ (s.shareStored f).share.standing = _ ∧
      (s.shareStored f).share.mark = _ ∧ (s.shareStored f).share.flight.isSome = _
    rw [shareStored_share]
    exact ⟨rfl, rfl, rfl, rfl⟩
  · show (s.shareStored f).share.record = _ ∧ (s.shareStored f).share.standing = _ ∧
      (s.shareStored f).share.mark = _ ∧ _
    rw [shareStored_share]
    exact ⟨rfl, rfl, rfl, rfl⟩

theorem endShare_drive (s : State) (f : ShareFlight) :
    (s.endShare f).drive = (s.shareHanded f).drive := by
  rw [endShare_eq]
  cases s.share.mark <;> rfl

theorem endShare_plant (s : State) (f : ShareFlight) :
    (s.endShare f).plant = (s.shareStored f).plant := by
  obtain ⟨d, h⟩ := s.shareHanded_drives f
  rw [endShare_eq, h]
  cases s.share.mark <;> rfl

/-- The drive takes a position handed over outside a hold. -/
theorem shareHanded_handed {f : ShareFlight} {p : Nat} (hp : (s.shareResult f).position = some p)
    (handed : handedOver p s.drive.target = true) (free : s.drive.hold.isRunning = false) :
    (s.shareHanded f).drive.target = p := by
  have taken : s.shareHanded f = (s.shareStored f).takeTarget p := by
    have hh : (s.shareResult f).handed = some true := by
      show (s.shareResult f).position.map (fun p => handedOver p s.drive.target) = _
      rw [hp, ← handed]
      rfl
    have free' : (s.shareStored f).drive.hold.isRunning = false := by rw [shareStored_drive, free]
    unfold shareHanded
    rw [hp, hh]
    unfold handTarget
    rw [free']
    rfl
  rw [taken]
  exact ((s.shareStored f).takeTarget_keeps p).1

/-- Without a position, within the deadband and in a hold the drive stands. -/
theorem shareHanded_stands {f : ShareFlight} (h : (s.shareResult f).position = none ∨
    (∃ p, (s.shareResult f).position = some p ∧ handedOver p s.drive.target = false) ∨
    s.drive.hold.isRunning = true) : (s.shareHanded f).drive = s.drive := by
  rw [← s.shareStored_drive f]
  rcases h with none | ⟨p, hp, within⟩ | held
  · unfold shareHanded
    rw [none]
  · have hh : (s.shareResult f).handed = some false := by
      show (s.shareResult f).position.map (fun p => handedOver p s.drive.target) = _
      rw [hp, ← within]
      rfl
    unfold shareHanded
    rw [hp, hh]
  · have held' : (s.shareStored f).drive.hold.isRunning = true := by rw [shareStored_drive, held]
    unfold shareHanded
    split
    · unfold handTarget
      rw [held']
      rfl
    · rfl

end State

/-! ### The deadband and the cases (R66, R67, R79) -/

theorem handedOver_iff (p target : Nat) : handedOver p target = true ↔
    12 ≤ max p target - min p target ∨ ((p = 0 ∨ p = 1200) ∧ p ≠ target) := by
  simp [handedOver, Config.fullyOpen]

theorem shareOutcome_offline {role : Role} {c : Config.Product} {n : ShareSnapshot}
    (h : n.online = false) : shareOutcome role c n = fallbackRecord c n .notOnline := by
  unfold shareOutcome
  rw [h]
  rfl

theorem shareOutcome_silent {role : Role} {c : Config.Product} {n : ShareSnapshot}
    (h : n.online = true) (hs : n.silent = true) :
    shareOutcome role c n = fallbackRecord c n .plantSilent := by
  unfold shareOutcome
  rw [h, hs]
  rfl

theorem shareOutcome_hold {role : Role} {c : Config.Product} {n : ShareSnapshot} {r : PlantRecord}
    (h : n.online = true) (hs : n.silent = false) (hr : n.source = some r)
    (hold : r.mode = .idle ∨ r.mode = .lockout ∨ r.phases.defrost = true) :
    shareOutcome role c n = holdRecord n r (if r.mode = .idle then .idle
      else if r.mode = .lockout then .lockout else .defrost) := by
  unfold shareOutcome
  rw [h, hs, hr]
  by_cases idle : r.mode = .idle
  · simp [idle]
  · by_cases lockout : r.mode = .lockout
    · simp [lockout]
    · simp [idle, lockout, hold.resolve_left idle |>.resolve_left lockout]

open State in
/-- Settles O34: the outcome is stored, its position handed over by the deadband, a marked reckoning
begun, and a changed flag may prompt. -/
theorem shareReckoningEndStoresItsOutcome : Obligations.ShareReckoningEndStoresItsOutcome := by
  intro s f out endStop held flight computing hout
  set u := (s.senseEndStop endStop).reach f.due with hu
  have ends : s.shareEnds endStop = (u.endShare f).promptFlags s := by
    unfold shareEnds
    rw [flight]
    exact if_pos (beq_iff_eq.mpr computing)
  have run : exec (.shareReckoningEnd endStop) s = .next (s.shareEnds endStop) :=
    congrArg Host.Outcome.next (s.take_running _ held)
  have result : u.shareResult f =
      { out with handed := out.position.map fun p => handedOver p s.drive.target } := by
    rw [hout]
    rfl
  have position : (u.shareResult f).position = out.position := by rw [result]
  have frame := frame_of_shareItems (s.shareEnds_changes endStop) (by decide)
  rw [ends] at run frame
  have prompts := (u.endShare f).promptFlags_changes s
  have now : ((u.endShare f).promptFlags s).now = max s.now f.due :=
    (prompts.of_not_mem (i := .clock) (by decide) : _ = _).trans
      ((u.endShare_changes f).of_not_mem (i := .clock) (by decide))
  have drive : ((u.endShare f).promptFlags s).drive = (u.shareHanded f).drive :=
    (promptFlags_drive s).trans (u.endShare_drive f)
  obtain ⟨flight', mark'⟩ := prompts.of_not_mem (i := .shareFlight) (by decide)
  obtain ⟨record', standing'⟩ := prompts.of_not_mem (i := .shareResult) (by decide)
  obtain ⟨record, standing, mark, again⟩ := u.endShare_share f
  refine ⟨_, run, ?_, ?_, ?_, ?_, ?_, ?_, ?_, ?_, ?_, ?_, ?_, ?_, ?_, ?_⟩
  · rw [record', record, result]
    rfl
  · rw [standing', standing, position]
    rfl
  · rw [mark', mark]
  · rw [flight', again]
    rfl
  · intro p hp free beyond
    rw [drive]
    exact shareHanded_handed (position.trans hp) ((handedOver_iff _ _).mpr beyond) free
  · intro p hp within
    rw [drive, shareHanded_stands (.inr (.inl ⟨p, position.trans hp,
      Bool.eq_false_iff.mpr (mt (handedOver_iff _ _).mp within)⟩))]
    rfl
  · intro none
    rw [drive, shareHanded_stands (.inl (position.trans none))]
    rfl
  · intro hold
    rw [drive, shareHanded_stands (s := u) (.inr (.inr hold))]
    rfl
  · intro zone
    have zone' : (u.endShare f).role = .zone := by
      obtain ⟨-, role, -⟩ := (u.endShare_changes f).of_not_mem (i := .fixed) (by decide)
      exact role.trans zone
    rw [promptFlags_plant zone', endShare_plant, u.shareStored_plant_zone f zone]
    rfl
  · intro plant
    have stored : (u.endShare f).plant = { s.plant with unplaced := out.unplaced } := by
      rw [endShare_plant, u.shareStored_plant f plant, result]
      rfl
    obtain ⟨l, a, b, h⟩ := (u.endShare f).promptFlags_frame s
    rw [h]
    show { (u.endShare f).plant with announcer := b } = _
    rw [stored]
  · intro offline
    rw [hout, shareOutcome_offline offline]
    exact ⟨rfl, rfl, rfl⟩
  · intro online silent
    rw [hout, shareOutcome_silent online silent]
    exact ⟨rfl, rfl, rfl⟩
  · intro online heard r hr hold
    rw [hout, shareOutcome_hold online heard hr hold]
    exact ⟨rfl, rfl, rfl⟩
  · rw [now] at frame
    exact frame

end Sys2Proof.Machine
end

section
/-! PROOF. When a wait period begins (R167), and what a change of the station state does (R3 to R11). -/

namespace Sys2Proof.Machine

namespace State
variable (s : State)

/-! ### The wait period (R167) -/

/-- A queued frame on an idle line that is not stuck, with no attempt in flight, draws once. -/
theorem beginWait_draws (queued : s.line.queue ≠ []) (landed : ∀ e ∈ s.line.queue, e.inFlight = false)
    (idle : s.line.idle = true) (free : s.line.stuck = false) :
    s.beginWait = s.onLine fun l =>
      { l with
        sequence := (5 * l.sequence + 1) % 256, wait := some (((5 * l.sequence + 1) % 256) / 32) } := by
  have sending : s.line.sending = none := Line.sending_eq_none.mpr landed
  have held : s.line.queue.isEmpty = false := by simpa using queued
  unfold beginWait
  rw [held, sending, idle, free]
  rfl

/-- Without one of these there is no draw. -/
theorem beginWait_stands (h : s.line.queue = [] ∨ (∃ e ∈ s.line.queue, e.inFlight = true) ∨
    s.line.idle = false ∨ s.line.stuck = true) : s.beginWait = s := by
  unfold beginWait
  rw [if_neg]
  rcases h with empty | ⟨e, he, flies⟩ | busy | stuck
  · simp [empty]
  · have sending : s.line.sending ≠ none := fun k => by
      rw [Line.sending_eq_none.mp k e he] at flies
      exact Bool.noConfusion flies
    simp [Option.isNone_iff_eq_none, sending]
  · simp [busy]
  · simp [stuck]

/-! ### The queue on entering a state (R3) -/

theorem purgeQueue_of_empty (empty : s.line.queue = []) :
    s.purgeQueue = s.onLine fun l => { l with wait := none } := by
  unfold purgeQueue
  simp [empty, onLine]

theorem moveTo_of_empty (x : Station) (empty : s.line.queue = []) : s.moveTo x = { s with
    member := { s.member with
      station := x, joinWindow := .stopped, rollCallWait := .stopped, duplicateHold := .stopped }
    line := { s.line with wait := none } } :=
  purgeQueue_of_empty _ empty

/-- A state that allows nothing is entered with nothing queued, and without a draw. -/
theorem moveTo_silent (x : Station) (silent : ∀ k, x.allows k = false) :
    (s.moveTo x).line.queue = [] ∧ (s.moveTo x).line.sequence = s.line.sequence := by
  have emptied : (s.moveTo x).line.queue = [] := by
    rw [moveTo_queue]
    simp [silent]
  refine ⟨emptied, ?_⟩
  set m := s.onMember fun m => { m with
    station := x, joinWindow := .stopped, rollCallWait := .stopped, duplicateHold := .stopped }
  show m.purgeQueue.line.sequence = m.line.sequence
  unfold purgeQueue
  extract_lets gone stopped s1 s2
  have told : s2.sameBut [.responder, .restarts] (gone.foldl (fun t e => t.resultLeft e.use .removed) s2) :=
    sameBut_foldl (fun u e => u.resultLeft_changes _ _) _ _
  obtain ⟨-, -, -, -, sequence, -⟩ := wire_same (told.of_not_mem (i := .wire) (by decide))
  rw [sequence]
  have none : s1.line.queue = [] := List.filter_eq_nil_iff.mpr fun e _ => by simp [m, silent]
  unfold s2
  rw [none]
  rfl

/-! ### What entering a state begins (R4, R5, R7, R10) -/

variable {s}

theorem entered_unaddressed (h : s.member.station = .unaddressed) : s.entered = s := by
  unfold entered
  rw [h]

theorem entered_listen (h : s.member.station = .listen) :
    s.entered = s.onMember fun m => { m with joinWindow := s.timer Config.joinWindowMs } := by
  unfold entered
  rw [h]

theorem entered_claim (h : s.member.station = .claim) :
    s.entered = s.placePeriodic .rollCall s.address := by
  unfold entered
  rw [h]

theorem entered_duplicate (h : s.member.station = .duplicate) :
    s.entered = s.onMember fun m => { m with duplicateHold := s.timer Config.duplicateHoldMs } := by
  unfold entered
  rw [h]

theorem entered_online (h : s.member.station = .online) : s.entered =
    (s.onMember fun m => { m with lineQuiet := s.timer Config.lineQuietMs }
      ).shareTrigger.plantTrigger.placeAnnouncement := by
  unfold entered
  rw [h]

theorem enterStation_offline (x : Station) (h : s.member.station ≠ .online) :
    s.enterStation x = (s.moveTo x).entered := by
  rw [enterStation_eq, beq_eq_false_iff_ne.mpr h]
  rfl

/-- The entry of an own frame just placed, without a body until its attempt. -/
def unsentEntry (k : TxKind) (dest : Nat) : TxEntry :=
  { kind := k, dest, body := none, lost := 0, inFlight := false, use := .plain }

/-- A frame placed on an empty queue that the state allows. -/
theorem placePeriodic_of_empty {k : TxKind} (dest : Nat) (allowed : s.member.station.allows k = true)
    (empty : s.line.queue = []) : s.placePeriodic k dest =
      s.placeEntry (unsentEntry k dest) := by
  unfold placePeriodic
  rw [allowed, empty]
  rfl

theorem placeEntry_of_empty (e : TxEntry) (empty : s.line.queue = []) :
    s.placeEntry e = (s.onLine fun l => { l with queue := [e] }).beginWait := by
  simp [placeEntry, empty, onLine]

end State

open State in
/-- Settles O7: an empty queue stays empty but for the ROLL CALL, whose wait period the line decides. -/
theorem stationTimersMoveTheStation : Obligations.StationTimersMoveTheStation := by
  refine ⟨fun s d held listen join empty => ?_, fun s d held duplicate hold empty => ?_,
    fun s d held quiet => ?_⟩
  · set e := unsentEntry .rollCall s.address
    set v : State := { s with
      now := max s.now d
      member := { s.member with
        station := .claim, joinWindow := .stopped, rollCallWait := .stopped, duplicateHold := .stopped }
      line := { s.line with wait := none, queue := [e] } } with hv
    have run : exec .joinWindowExpiry s = .next v.beginWait := by
      show Host.Outcome.next _ = _
      have offline : (s.reach d).member.station ≠ .online := by
        rw [show (s.reach d).member.station = _ from listen]
        decide
      have moved := moveTo_of_empty (s.reach d) .claim empty
      have still : ((s.reach d).moveTo .claim).line.queue = [] := by rw [moved]; exact empty
      rw [join, s.takeExpiry_running d _ held, enterStation_offline _ offline,
        entered_claim (by rw [moved]), placePeriodic_of_empty _ (by rw [moved]; rfl) still,
        placeEntry_of_empty _ still, moved]
      rfl
    refine ⟨_, run, ?_, fun ⟨idle, free⟩ => ?_, fun busy => ?_⟩
    · obtain ⟨l, h⟩ := v.beginWait_frame
      have line := v.beginWait_line
      rw [h] at line ⊢
      rw [show l = _ from line]
      rfl
    · rw [v.beginWait_draws (List.cons_ne_nil _ _) (by simp [v, e, unsentEntry]) idle free]
      exact ⟨rfl, rfl⟩
    · rw [v.beginWait_stands (.inr (.inr busy))]
      exact ⟨rfl, rfl⟩
  · have moved := moveTo_of_empty (s.reach d) .listen empty
    show Host.Outcome.next _ = _
    have offline : (s.reach d).member.station ≠ .online := by
      rw [show (s.reach d).member.station = _ from duplicate]
      decide
    rw [hold, s.takeExpiry_running d _ held, enterStation_offline _ offline,
      entered_listen (by rw [moved]), moved]
    rfl
  · show Host.Outcome.next _ = _
    rw [quiet, s.takeExpiry_running d _ held]
    rfl

namespace State
variable {s : State}

/-- The first announcement on an empty queue is placed, and its period timer starts (R55, R138). -/
theorem placeAnnouncement_of_empty (online : s.member.station = .online) (empty : s.line.queue = []) :
    s.placeAnnouncement.line.queue = [unsentEntry (ownKind s.role) 0] ∧
    s.placeAnnouncement.announcer = { s.announcer with period := s.timer (periodMs s.role) } := by
  have allowed : s.member.station.allows (ownKind s.role) = true := by
    rw [online]
    cases s.role <;> rfl
  have grounded : s.announcing = false := by
    unfold announcing
    rw [empty]
    rfl
  unfold placeAnnouncement
  rw [grounded, placePeriodic_of_empty _ allowed empty, if_neg Bool.noConfusion]
  refine ⟨?_, ?_⟩
  · rw [onAnnouncer_line, s.placeEntry_queue, empty]
    rfl
  · obtain ⟨l, h⟩ := s.placeEntry_frame (unsentEntry (ownKind s.role) 0)
    rw [h]
    unfold onAnnouncer announcer
    cases s.role <;> rfl

end State

open State in
/-- Settles O8: on the empty queue that a roll call leaves, ONLINE tells both units and places the
first announcement. -/
theorem rollCallWaitEndsOnline : Obligations.RollCallWaitEndsOnline := by
  intro s d held claim wait empty
  set w : State := { s with
    now := max s.now d
    member := { s.member with
      station := .online, joinWindow := .stopped, rollCallWait := .stopped, duplicateHold := .stopped
      lineQuiet := .running (max s.now d + 60000) }
    line := { s.line with wait := none } } with hw
  obtain ⟨f, m, shared⟩ := w.shareTrigger_frame
  obtain ⟨g, n, planted⟩ := w.shareTrigger.plantTrigger_frame
  set u := w.shareTrigger.plantTrigger with hu
  have base : u = { w with
      share := { w.share with flight := f, mark := m }, plant := { w.plant with flight := g, mark := n } } := by
    rw [planted, shared]
  have run : exec .rollCallWaitExpiry s = .next u.placeAnnouncement := by
    show Host.Outcome.next _ = _
    have offline : (s.reach d).member.station ≠ .online := by
      rw [show (s.reach d).member.station = _ from claim]
      decide
    have moved := moveTo_of_empty (s.reach d) .online empty
    rw [wait, s.takeExpiry_running d _ held, enterStation_offline _ offline,
      entered_online (by rw [moved]), moved]
    rfl
  obtain ⟨l, a, b, placed⟩ := u.placeAnnouncement_frame
  obtain ⟨queue, announcer⟩ := placeAnnouncement_of_empty (s := u) (by rw [base]) (by rw [base]; exact empty)
  have told := w.shareTrigger_told
  have toldPlant' := w.shareTrigger.plantTrigger_told
  rw [← hu] at toldPlant'
  refine ⟨_, run, ?_, ?_, ?_, ?_, fun plant => ?_, ?_, ?_, ?_⟩
  · rw [placed, base]
  · rw [queue, base]
    rfl
  · rw [announcer, base]
    rfl
  · refine toldShare_of_share_eq (s := w) rfl ?_ told
    rw [placed, base, shared]
  · refine toldPlant_of_plant_eq ?_ ?_ ?_ (toldPlant' (by rw [shared]; exact plant))
    · rw [shared]
    · rw [placed]
    · rw [placed]
  · rw [placed, base]
  · rw [placed, base]
  · rw [placed, base]

end Sys2Proof.Machine
end

section
/-! PROOF. Leaving a station state, the RESTART carried out, and duplicate evidence (R3 to R11). -/

namespace Sys2Proof.Machine

/-! ### What is told stays told (R63, R107) -/

namespace State
variable {s t u : State}

/-- A share reckoning in flight stays, and its pending mark. -/
def sharesOn (s t : State) : Prop := ∀ f, s.share.flight = some f →
  t.share.flight = some f ∧ (s.share.mark = true → t.share.mark = true)

theorem sharesOn_refl (s : State) : s.sharesOn s := fun _ h => ⟨h, id⟩

theorem sharesOn.trans (h : s.sharesOn t) (k : t.sharesOn u) : s.sharesOn u := fun f hf =>
  have ⟨flight, mark⟩ := h f hf
  have ⟨flight', mark'⟩ := k f flight
  ⟨flight', mark' ∘ mark⟩

theorem sharesOn_of_sameBut {a : List Item} (h : s.sameBut a t) (ha : .shareFlight ∉ a) :
    s.sharesOn t := by
  obtain ⟨flight, mark⟩ := h.of_not_mem ha
  intro f hf
  rw [flight, mark]
  exact ⟨hf, id⟩

theorem sharesOn_of_told (h : toldShare s t) : s.sharesOn t := fun f hf =>
  have ⟨flight, mark⟩ := h.2 f hf
  ⟨flight, fun _ => mark⟩

theorem andIf_sharesOn {act : State → State} (h : ∀ u : State, u.sharesOn (act u)) (s : State) (c : Bool) :
    s.sharesOn (s.andIf c act) := by
  cases c
  · exact s.sharesOn_refl
  · exact h s

theorem toldShare_before (k : s.sharesOn t) (h : toldShare t u) : toldShare s u :=
  ⟨h.1, fun f hf => h.2 f (k f hf).1⟩

theorem toldShare_after (h : toldShare s t) (k : t.sharesOn u) : toldShare s u := by
  obtain ⟨f, hf⟩ := Option.isSome_iff_exists.mp h.1
  have stays := k f hf
  refine ⟨by rw [stays.1]; rfl, fun g hg => ?_⟩
  obtain ⟨flight, mark⟩ := h.2 g hg
  obtain rfl : g = f := Option.some.inj (flight.symm.trans hf)
  exact ⟨stays.1, stays.2 mark⟩

/-! ### ONLINE left (R9, R22, R58, R108, R124) -/

/-- The sequencer forced to IDLE: no call, no air, the valve off, min-off begun (R124, R132). -/
def forcedIdle (s t : State) : Prop :=
  t.plant.arb.mode = .idle ∧ t.plant.arb.valve = false ∧ t.plant.air.call = false ∧
    t.plant.air.qb = 0 ∧ t.plant.arb.minOff = .running (s.now + 180000)

theorem forcedIdle_of_sequencer {a : List Item} (h : t.sameBut a u) (ha : .sequencer ∉ a)
    (k : s.forcedIdle t) : s.forcedIdle u := by
  obtain ⟨arb, air, -⟩ := h.of_not_mem ha
  unfold forcedIdle
  rwa [arb, air]

theorem forcePlantIdle_forced (s : State) : s.forcedIdle s.forcePlantIdle := by
  unfold forcePlantIdle
  extract_lets s1
  exact forcedIdle_of_sequencer (tellShare_changes _ _) (by decide) ⟨rfl, rfl, rfl, rfl, rfl⟩

theorem leftOnline_left (s : State) : s.leftOnline.announcer = Announcer.reset ∧
    toldShare s s.leftOnline ∧ (s.role = .plant → s.forcedIdle s.leftOnline) := by
  unfold leftOnline
  extract_lets s1 s2
  have begun : s.sameBut [.stationTimers, .announcer] s1 :=
    ((s.onMember_timer_changes _ rfl).mono (by decide)).trans
      ((onAnnouncer_changes _ _).mono (by decide))
  have told := ((shareTrigger_changes s2).mono (b := [.shareFlight, .plantFlight]) (by decide)).trans
    ((plantTrigger_changes _).mono (by decide))
  have reset : s1.role = s.role ∧ s1.announcer = Announcer.reset := by
    unfold s1 onAnnouncer announcer
    cases hr : s.role <;> simp [hr]
  have forced : s1.sameBut [.plantFlight, .sequencer, .shareFlight] s2 := by
    unfold s2
    split
    · exact s1.sameBut_refl _
    · exact ((s1.onPlant_flight_changes _ s1.plant.mark).mono (by decide)).trans
        ((forcePlantIdle_changes _).mono (by decide))
  have flies : s1.sharesOn s2 := by
    unfold s2
    split
    · exact s1.sharesOn_refl
    · exact (sharesOn_of_sameBut (s1.onPlant_flight_changes _ s1.plant.mark) (by decide)).trans
        ((sharesOn_of_sameBut (onPlant_sequencer_changes _ _ rfl) (by decide)).trans
          (andIf_sharesOn (fun u => sharesOn_of_told u.shareTrigger_told) _ _))
  refine ⟨?_, ?_, fun plant => ?_⟩
  · have all := (forced.mono (b := [.plantFlight, .sequencer, .shareFlight]) (by decide)).trans
      (told.mono (by decide))
    obtain ⟨-, role, -⟩ := all.of_not_mem (i := .fixed) (by decide)
    obtain ⟨demand, plant⟩ := all.of_not_mem (i := .announcer) (by decide)
    rw [← reset.2]
    unfold announcer
    rw [role, demand, plant]
  · exact toldShare_before ((sharesOn_of_sameBut begun (by decide)).trans flies)
      (toldShare_after s2.shareTrigger_told (sharesOn_of_sameBut (plantTrigger_changes _) (by decide)))
  · refine forcedIdle_of_sequencer told (by decide) ?_
    have now : s1.now = s.now := begun.of_not_mem (i := .clock) (by decide)
    unfold s2 forcedIdle
    rw [plant, ← now]
    exact forcePlantIdle_forced (s1.onPlant fun p => { p with flight := p.flight.map PlantFlight.makeVoid })

theorem sensing_of_sameBut {a : List Item} (h : s.sameBut a t)
    (ha : ∀ i ∈ [Item.channels, .contacts, .sample], i ∉ a) : t.sensing = s.sensing := by
  obtain ⟨first, second⟩ := h.of_not_mem (ha .channels (by decide))
  obtain ⟨contact1, contact2⟩ := h.of_not_mem (ha .contacts (by decide))
  have sample : _ = _ := h.of_not_mem (ha .sample (by decide))
  cases ht : t.sensing
  cases hs : s.sensing
  simp_all

/-! ### A state entered that allows nothing (R3, R9, R10, R11) -/

/-- A state x reached from s that allows no frame, before what entering begins. -/
structure silenced (s v : State) (x : Station) : Prop where
  member : v.member = { s.member with
    station := x, joinWindow := .stopped, rollCallWait := .stopped, duplicateHold := .stopped
    lineQuiet := if s.member.station = .online then .stopped else s.member.lineQuiet
    restartsHanded := v.member.restartsHanded }
  changes : s.sameBut stationItems v
  queue : v.line.queue = []
  sequence : v.line.sequence = s.line.sequence
  sharesOn : s.sharesOn v
  left : s.member.station = .online → v.announcer = Announcer.reset ∧ toldShare s v ∧
    (s.role = .plant → s.forcedIdle v)

theorem moveTo_member (s : State) (x : Station) : (s.moveTo x).member = { s.member with
    station := x, joinWindow := .stopped, rollCallWait := .stopped, duplicateHold := .stopped
    restartsHanded := (s.moveTo x).member.restartsHanded } := by
  have moved := s.moveTo_changes x
  obtain ⟨station, join, wait, hold, quiet⟩ := s.moveTo_station x
  have aging : _ = _ := moved.of_not_mem (i := .aging) (by decide)
  obtain ⟨table, followed⟩ := moved.of_not_mem (i := .roster) (by decide)
  obtain ⟨deferred, emptying⟩ := moved.of_not_mem (i := .waits) (by decide)
  obtain ⟨full, quietLatch, fullCount⟩ := moved.of_not_mem (i := .memberLatches) (by decide)
  cases hm : (s.moveTo x).member
  cases hn : s.member
  simp_all

theorem enterStation_silent (s : State) {x : Station} (silent : ∀ k, x.allows k = false) :
    ∃ v : State, s.enterStation x = v.entered ∧ s.silenced v x := by
  obtain ⟨emptied, sequence⟩ := s.moveTo_silent x silent
  have moved := (s.moveTo_changes x).mono (b := stationItems) (by decide)
  have flies := sharesOn_of_sameBut (s.moveTo_changes x) (by decide)
  refine ⟨_, s.enterStation_eq x, ?_⟩
  by_cases online : s.member.station = .online
  · rw [beq_iff_eq.mpr online, andIf_true]
    set v := s.moveTo x with hv
    obtain ⟨reset, told, forced⟩ := v.leftOnline_left
    have left := v.leftOnline_changes.mono (b := [.stationTimers, .announcer, .plantFlight,
      .sequencer, .shareFlight]) (by decide)
    obtain ⟨queue, -, -, -, sequence', -⟩ := wire_same (left.of_not_mem (i := .wire) (by decide))
    refine ⟨?_, moved.trans (left.mono (by decide)), queue.trans emptied, sequence'.trans sequence,
      flies.trans (sharesOn_of_told told), fun _ => ⟨reset, toldShare_before flies told, fun plant => ?_⟩⟩
    · rw [leftOnline_member, if_pos online, hv, moveTo_member]
    · obtain ⟨-, role, -⟩ := moved.of_not_mem (i := .fixed) (by decide)
      have now : v.now = s.now := moved.of_not_mem (i := .clock) (by decide)
      have idle := forced (role.trans plant)
      unfold forcedIdle at idle ⊢
      rwa [now] at idle
  · rw [beq_eq_false_iff_ne.mpr online, andIf_false]
    refine ⟨?_, moved, emptied, sequence, flies, fun k => absurd k online⟩
    rw [if_neg online]
    exact s.moveTo_member x

end State

/-! ### Duplicate evidence (R4, R6, R9, R10) -/

namespace State
variable {s t u : State}

/-- DUPLICATE entered from s, with its hold begun and ONLINE left if it was. -/
structure duplicateReached (s t : State) : Prop where
  station : t.member.station = .duplicate
  hold : t.member.duplicateHold = .running (s.now + 120000)
  join : t.member.joinWindow = .stopped
  wait : t.member.rollCallWait = .stopped
  queue : t.line.queue = []
  left : s.member.station = .online → t.member.lineQuiet = .stopped ∧
    t.announcer = Announcer.reset ∧ toldShare s t ∧ (s.role = .plant → s.forcedIdle t)
  changes : s.sameBut stationItems t

theorem enterStation_duplicateReached (s : State) : s.duplicateReached (s.enterStation .duplicate) := by
  obtain ⟨v, entered, silenced⟩ := s.enterStation_silent (x := .duplicate) (fun _ => rfl)
  have member := silenced.member
  have now : v.now = s.now := silenced.changes.of_not_mem (i := .clock) (by decide)
  rw [entered, entered_duplicate (by rw [member])]
  refine ⟨congrArg Membership.station member, ?_, congrArg Membership.joinWindow member,
    congrArg Membership.rollCallWait member, silenced.queue, fun online => ?_, ?_⟩
  · show Timer.running (v.now + 120000) = _
    rw [now]
  · obtain ⟨reset, told, forced⟩ := silenced.left online
    exact ⟨(congrArg Membership.lineQuiet member).trans (if_pos online), reset,
      toldShare_of_share_eq rfl rfl told, forced⟩
  · exact silenced.changes.trans ((v.onMember_timer_changes _ rfl).mono (by decide))

/-- Where evidence counts, it sends the station to DUPLICATE. -/
def judges (s : State) : Prop :=
  s.member.station = .listen ∨ s.member.station = .claim ∨ s.member.station = .online

theorem duplicateEvidence_reached (h : s.judges) : s.duplicateReached s.duplicateEvidence := by
  have entered : s.duplicateEvidence = s.enterStation .duplicate := by
    unfold duplicateEvidence
    rcases h with h | h | h <;> rw [h]
  rw [entered]
  exact s.enterStation_duplicateReached

theorem duplicateEvidence_ignored (h : s.member.station = .duplicate) : s.duplicateEvidence = s := by
  unfold duplicateEvidence
  rw [h]

theorem judgeSource_own {f : Frame} (own : f.src.toNat = s.address) (ha : s.address ≠ 0) :
    s.judgeSource f = s.duplicateEvidence := by
  unfold judgeSource
  rw [fromOwn_eq_true own ha]
  rfl

end State

/-- What a frame from the own address reaches the membership unit as, past the blocks of its kind. -/
theorem exec_ownFrame {c : Instr} {f : Frame} {rest : List Frame} {s : State} (front : s.atFront f rest)
    (takes : takesFrame c f = true)
    (kind : c ∈ [.announce, .plantStatus, .present, .setpointReply, .result, .rollCall])
    (own : f.src.toNat = s.address) (addressed : s.address ≠ 0) (started : s.member.station ≠ .start)
    (elsewhere : s.member.station = .online → c ≠ .rollCall) :
    exec c s = .next (s.taken rest).duplicateEvidence := by
  have fromOwn : (s.taken rest).fromOwn f = true := State.fromOwn_eq_true own addressed
  have judged : (s.taken rest).judgeSource f = (s.taken rest).duplicateEvidence :=
    State.judgeSource_own own addressed
  have record : (s.taken rest).handRecord f = (s.taken rest).judgeSource f := by
    rw [judged]
    unfold State.handRecord
    rw [if_neg (by simp [own, addressed]), if_pos fromOwn]
  rw [← judged]
  simp only [List.mem_cons, List.not_mem_nil, or_false] at kind
  rcases kind with rfl | rfl | rfl | rfl | rfl | rfl
  case inr.inr.inr.inr.inr =>
    have heard : (s.taken rest).heardRollCall f = (s.taken rest).judgeSource f := by
      unfold State.heardRollCall
      rw [if_pos fromOwn, if_neg (by simpa using fun k => elsewhere k rfl), judged]
    refine congrArg Host.Outcome.next ((State.takeFrame_atFront front started takes _).trans heard)
  case inl => exact congrArg Host.Outcome.next ((State.takeFrame_atFront front started takes _).trans record)
  case inr.inl =>
    exact congrArg Host.Outcome.next ((State.takeFrame_atFront front started takes _).trans record)
  all_goals exact congrArg Host.Outcome.next (State.takeFrame_atFront front started takes _)

/-- What the block of a SETPOINT or a request can reach before the source is judged. -/
abbrev State.handledItems : List Item :=
  [.wire, .latches, .counters, .memberLatches, .contacts, .drive, .sequencer, .plantFlight, .announcer,
    .responder, .restarts, .setpoints, .demand, .shareFlight]

/-- The state u is s handled by a frame's own block: nothing told is lost. -/
def State.handledTo (s u : State) : Prop := s.sameBut State.handledItems u ∧ s.sharesOn u

theorem State.handledTo_of_sameBut {s u : State} {a : List Item} (h : s.sameBut a u)
    (ha : a ⊆ handledItems) (hs : .shareFlight ∉ a) : s.handledTo u :=
  ⟨h.mono ha, sharesOn_of_sameBut h hs⟩

theorem State.applySetpoint_handled (s : State) (f : Frame) : s.handledTo (s.applySetpoint f) := by
  refine ⟨(s.applySetpoint_changes f).mono (by decide), ?_⟩
  have answered (u : State) (k : TxKind) (dest : Nat) (body : List Byte) :
      u.sharesOn (u.placeReply k dest body .plain).1 :=
    sharesOn_of_sameBut (u.placeReply_changes _ _ _ _) (by decide)
  have evaluated (u old : State) : u.sharesOn (u.evaluate old) :=
    ((sharesOn_of_sameBut (u.onDemand_changes _ (by simp)) (by decide)).trans
      (andIf_sharesOn (fun w => sharesOn_of_told w.shareTrigger_told) _ _)).trans
      (sharesOn_of_sameBut (sameBut_andIf promptCause_changes _ _) (by decide))
  have recomputed (u old : State) : u.sharesOn (u.recompute old) :=
    (sharesOn_of_sameBut ((u.onDemand_changes _ (by simp)).trans (onDemand_changes _ _ (by simp)))
      (by decide)).trans (evaluated _ old)
  unfold applySetpoint
  split
  · extract_lets w kept s1 s2
    have worked : s.sharesOn s2 := recomputed s1 s
    split_ifs
    · exact worked.trans (answered _ _ _ _)
    · exact worked
  · split_ifs
    · exact answered _ _ _ _
    · exact s.sharesOn_refl

namespace State
variable {s : State}

/-- The figures and marks a SETPOINT is worked to. -/
def setpointWorked (s : State) (f : Frame) : Figures × SetpointMarks :=
  s.setpoints.work s.cfg (setpointField f.body 0) (setpointField f.body 2) (setpointField f.body 4)

/-- The state with a SETPOINT's figures stored and recomputed from. -/
def setpointApplied (s : State) (f : Frame) : State :=
  ({ s with setpoints := { s.setpoints with figures := (s.setpointWorked f).1 } } : State).recompute s

theorem setpointApplied_setpoints (s : State) (f : Frame) : (s.setpointApplied f).setpoints =
    { s.setpoints with figures := (s.setpointWorked f).1 } :=
  (recompute_changes _ s).of_not_mem (i := .setpoints) (by decide)

theorem applySetpoint_zone (zone : s.role = .zone) (f : Frame) : s.applySetpoint f =
    if f.answered then ((s.setpointApplied f).placeReply .setpointReply f.src.toNat
      (replyBody (s.setpointWorked f).1 (s.setpointWorked f).2) .plain).1
    else s.setpointApplied f := by
  unfold applySetpoint
  split
  next => rfl
  next plant => exact Role.noConfusion (zone.symm.trans plant)

theorem applySetpoint_figures (zone : s.role = .zone) (f : Frame) :
    (s.applySetpoint f).setpoints.figures = (s.setpointWorked f).1 := by
  have applied : (s.setpointApplied f).setpoints.figures = (s.setpointWorked f).1 :=
    congrArg Setpoints.figures (s.setpointApplied_setpoints f)
  rw [applySetpoint_zone zone]
  split_ifs
  · refine Eq.trans (congrArg Setpoints.figures ?_) applied
    exact (placeReply_changes _ _ _ _ _).of_not_mem (i := .setpoints) (by decide)
  · exact applied

end State

/-- A request is handled by the responder, and then its source is judged. -/
theorem exec_request (r : Request) (endStop : Bool) : ∃ carry : Frame → State → State,
    (∀ s, exec (r.command endStop) s = .next (s.serve r carry)) ∧
      ∀ (f : Frame) (u : State), u.handledTo (carry f u) := by
  have within {a : List Item} {carry : Frame → State → State} (ha : a ⊆ State.handledItems)
      (hs : .shareFlight ∉ a) (h : ∀ (f : Frame) (u : State), u.sameBut a (carry f u)) (f : Frame)
      (u : State) : u.handledTo (carry f u) := State.handledTo_of_sameBut (h f u) ha hs
  cases r
  case peer | share | plant =>
    exact ⟨_, fun _ => rfl, within (by decide) (by decide) fun f u => u.answer_changes _ _ _ _⟩
  case status => exact ⟨_, fun _ => rfl, within (by decide) (by decide) fun f u => u.reportStatus_changes f⟩
  case dump => exact ⟨_, fun _ => rfl, within (by decide) (by decide) fun f u => u.buildDump_changes _⟩
  case clear =>
    exact ⟨_, fun _ => rfl, within (by decide) (by decide) fun f u => u.carryClear_changes f endStop⟩
  case rehome =>
    exact ⟨_, fun _ => rfl, within (by decide) (by decide) fun f u => u.carryRehome_changes f endStop⟩
  case hold =>
    exact ⟨_, fun _ => rfl, within (by decide) (by decide) fun f u => u.carryHold_changes f endStop⟩
  case restart => exact ⟨_, fun _ => rfl, within (by decide) (by decide) fun f u => u.carryRestart_changes f⟩

theorem State.respond_handled {carry : Frame → State → State}
    (h : ∀ (f : Frame) (u : State), u.handledTo (carry f u)) (s : State) (f : Frame) :
    s.handledTo (s.respond f carry) := by
  unfold respond
  split
  · exact ⟨s.sameBut_refl _, s.sharesOn_refl⟩
  · split
    · exact handledTo_of_sameBut (s.answer_changes _ _ _ _) (by decide) (by decide)
    · exact h f s

/-- A SETPOINT or a request from the own address is handled, and then is evidence (log entry 6). -/
theorem exec_ownHandled {c : Instr} {f : Frame} {rest : List Frame} {s : State} (front : s.atFront f rest)
    (takes : takesFrame c f = true)
    (kind : c = .setpoint ∨ ∃ (r : Request) (endStop : Bool), c = r.command endStop)
    (own : f.src.toNat = s.address) (addressed : s.address ≠ 0) (started : s.member.station ≠ .start) :
    ∃ u : State, exec c s = .next u.duplicateEvidence ∧ (s.taken rest).handledTo u ∧
      (c = .setpoint → u = (s.taken rest).applySetpoint f) := by
  have judged {u : State} (h : (s.taken rest).handledTo u) : u.judgeSource f = u.duplicateEvidence := by
    obtain ⟨-, -, address, -⟩ := h.1.of_not_mem (i := .fixed) (by decide)
    exact State.judgeSource_own (own.trans address.symm) (by rw [address]; exact addressed)
  rcases kind with rfl | ⟨r, endStop, rfl⟩
  · have handled := (s.taken rest).applySetpoint_handled f
    refine ⟨_, ?_, handled, fun _ => rfl⟩
    rw [← judged handled]
    exact congrArg Host.Outcome.next (State.takeFrame_atFront front started takes _)
  · obtain ⟨carry, run, carried⟩ := exec_request r endStop
    have handled := (s.taken rest).respond_handled carried f
    refine ⟨_, ?_, handled, fun k => ?_⟩
    · rw [← judged handled, run]
      have makes : f.makes r = true := by cases r <;> exact takes
      exact congrArg Host.Outcome.next (State.takeFrame_atFront front started makes _)
    · cases r <;> exact Instr.noConfusion k

open State in
/-- Settles O16: evidence in a state that judges it, straight or after the frame's own block, enters
DUPLICATE; in DUPLICATE it stands. -/
theorem ownFrameSendsToDuplicate : Obligations.OwnFrameSendsToDuplicate := by
  refine ⟨fun c f rest s front takes kind own addressed state => ?_,
    fun c f rest s front takes kind own addressed state => ?_,
    fun c f rest s front takes kind own addressed state => ?_⟩
  · have judges : (s.taken rest).judges := state.imp_right (Or.imp_right And.left)
    have started : s.member.station ≠ .start := by
      rcases state with h | h | ⟨h, -⟩ <;> rw [h] <;> decide
    have elsewhere (online : s.member.station = .online) : c ≠ .rollCall := by
      rcases state with h | h | ⟨-, h⟩
      · cases online.symm.trans h
      · cases online.symm.trans h
      · exact h
    obtain ⟨station, hold, join, wait, queue, left, changes⟩ := duplicateEvidence_reached judges
    obtain ⟨table, followed⟩ := changes.of_not_mem (i := .roster) (by decide)
    obtain ⟨-, -, -, cfg, -⟩ := changes.of_not_mem (i := .fixed) (by decide)
    exact ⟨_, exec_ownFrame front takes kind own addressed started elsewhere, station, hold, join, wait,
      table, followed, changes.of_not_mem (i := .pair) (by decide), queue, left,
      changes.of_not_mem (i := .drive) (by decide), changes.of_not_mem (i := .setpoints) (by decide),
      sensing_of_sameBut (s := s.taken rest) changes (by decide), cfg,
      changes.of_not_mem (i := .latches) (by decide), changes.of_not_mem (i := .counters) (by decide)⟩
  · have started : s.member.station ≠ .start := by rcases state with h | h | h <;> rw [h] <;> decide
    obtain ⟨u, run, ⟨handled, flies⟩, setpoint⟩ := exec_ownHandled front takes kind own addressed started
    have stays : u.member.station = s.member.station := handled.of_not_mem (i := .station) (by decide)
    have judges : u.judges := by
      unfold judges
      rwa [stays]
    obtain ⟨station, hold, join, wait, queue, left, changes⟩ := duplicateEvidence_reached judges
    obtain ⟨table, followed⟩ := changes.of_not_mem (i := .roster) (by decide)
    obtain ⟨table', followed'⟩ := handled.of_not_mem (i := .roster) (by decide)
    obtain ⟨-, -, -, cfg, -⟩ := changes.of_not_mem (i := .fixed) (by decide)
    obtain ⟨-, -, -, cfg', -⟩ := handled.of_not_mem (i := .fixed) (by decide)
    have now : u.now = s.now := handled.of_not_mem (i := .clock) (by decide)
    have pair : u.line.pair = rest := handled.of_not_mem (i := .pair) (by decide)
    have setpoints : _ = u.setpoints := changes.of_not_mem (i := .setpoints) (by decide)
    refine ⟨_, run, station, by rw [hold, now], join, wait, table.trans table', followed.trans followed',
      (changes.of_not_mem (i := .pair) (by decide) : _ = _).trans pair, queue, fun online => ?_,
      fun zone hc => ?_, cfg.trans cfg'⟩
    · obtain ⟨quiet, reset, told, -⟩ := left (stays.trans online)
      exact ⟨quiet, reset, toldShare_of_share_eq rfl rfl (toldShare_before flies told)⟩
    · rw [setpoints, setpoint hc]
      exact applySetpoint_figures (s := s.taken rest) zone f
  · have started : s.member.station ≠ .start := by rw [state]; decide
    have elsewhere (online : s.member.station = .online) : c ≠ .rollCall := by
      cases state.symm.trans online
    rw [exec_ownFrame front takes kind own addressed started elsewhere]
    exact congrArg Host.Outcome.next (duplicateEvidence_ignored (s := s.taken rest) state)

end Sys2Proof.Machine
end

section
/-! PROOF. The RESTART carried out (R9, R11, R23) and the end of START (R1, R184). -/

namespace Sys2Proof.Machine

namespace State
variable {s t : State}

/-! ### RESTART orders handed on (R179) -/

/-- A RESULT that leaves the queue hands no order on where none waits. -/
theorem resultLeft_unawaited (none : s.responder.waiting = []) (use : ResultUse) (how : Departure) :
    (s.resultLeft use how).responder.waiting = [] ∧
      (s.resultLeft use how).member.restartsHanded = s.member.restartsHanded := by
  have handed (u : State) (h : u.responder.waiting = []) : u.handRestarts.responder.waiting = [] ∧
      u.handRestarts.member.restartsHanded = u.member.restartsHanded := by
    simp [handRestarts, h]
  unfold resultLeft
  split
  · exact ⟨none, rfl⟩
  · exact handed _ (by rw [onResponder_responder, none]; rfl)
  · unfold dumpResultLeft
    split
    · exact ⟨none, rfl⟩
    · extract_lets goesOn
      split_ifs
      · exact ⟨none, rfl⟩
      · exact handed _ (by rw [onResponder_responder, none]; rfl)

theorem removed_unawaited (none : s.responder.waiting = []) (gone : List TxEntry) :
    (gone.foldl (fun t e => t.resultLeft e.use .removed) s).member.restartsHanded =
      s.member.restartsHanded := by
  induction gone generalizing s with
  | nil => rfl
  | cons e rest ih =>
    obtain ⟨waiting, restarts⟩ := resultLeft_unawaited none e.use .removed
    exact (ih waiting).trans restarts

theorem enterStation_restarts (none : s.responder.waiting = []) (x : Station) :
    (s.enterStation x).member.restartsHanded = s.member.restartsHanded := by
  have purged (u : State) (h : u.responder.waiting = []) :
      u.purgeQueue.member.restartsHanded = u.member.restartsHanded := by
    unfold purgeQueue
    extract_lets gone stopped s1 s2
    have line : u.sameBut [.wire] s2 := by
      unfold s2
      have shortened : u.sameBut [.wire] s1 := u.onLine_changes _ ⟨rfl, rfl, rfl, rfl⟩
      split_ifs
      · exact shortened.trans (s1.onLine_changes _ ⟨rfl, rfl, rfl, rfl⟩)
      · exact shortened.trans s1.beginWait_changes
      · exact shortened
    have waiting : s2.responder.waiting = [] :=
      (congrArg Responder.waiting (line.of_not_mem (i := .responder) (by decide))).trans h
    have start : s2.member.restartsHanded = u.member.restartsHanded :=
      line.of_not_mem (i := .restarts) (by decide)
    exact (removed_unawaited waiting gone).trans start
  have left := ((sameBut_andIf leftOnline_changes (s.moveTo x) (s.member.station == .online)).mono
    (b := [.stationTimers, .announcer, .plantFlight, .sequencer, .shareFlight, .wire]) (by decide)).trans
      ((entered_changes _).mono (by decide))
  exact (left.of_not_mem (i := .restarts) (by decide) : _ = _).trans (purged _ none)

/-! ### The table emptied (R11, R23) -/

theorem emptyTable_member (s : State) : s.emptyTable.member = { s.member with
    table := if s.occupied then s.member.table else [], followed := none
    emptying := if s.occupied then some (s.member.followed.isSome || s.member.emptying.getD false)
      else s.member.emptying } := by
  unfold emptyTable
  extract_lets followed
  split_ifs
  · rfl
  · obtain ⟨member, -⟩ := s.tableBecomes_keeps [] (!s.member.table.isEmpty || followed)
    show { (s.tableBecomes _ _).member with followed := none } = _
    rw [member]

theorem tableBecomes_sharesOn (s : State) (table : List Entry) (changed : Bool) :
    s.sharesOn (s.tableBecomes table changed) := by
  cases changed
  · exact sharesOn_of_sameBut (((s.onMember_roster_changes _ _).mono (b := [.roster, .wire, .announcer])
      (by decide)).trans ((promptFlags_changes _ _).mono (by decide))) (by decide)
  · exact sharesOn_of_told (s.tableBecomes_told table).1

theorem emptyTable_sharesOn (s : State) : s.sharesOn s.emptyTable := by
  unfold emptyTable
  extract_lets followed
  split_ifs
  · exact s.sharesOn_refl
  · exact s.tableBecomes_sharesOn _ _

theorem emptyTable_told (free : s.occupied = false)
    (h : s.member.table ≠ [] ∨ s.member.followed ≠ none) : toldShare s s.emptyTable := by
  have changes : (!s.member.table.isEmpty || s.member.followed.isSome) = true := by
    rcases h with h | h
    · simp [h]
    · simp [Option.isSome_iff_ne_none.mpr h]
  unfold emptyTable
  rw [free]
  show toldShare s ((s.tableBecomes _ _).onMember _)
  rw [changes]
  exact toldShare_of_share_eq rfl rfl (s.tableBecomes_told []).1

end State

open State in
/-- Settles O15: the table is emptied or its emptying waits, and LISTEN is entered. -/
theorem restartEmptiesAndListens : Obligations.RestartEmptiesAndListens := by
  intro s n held handed started addressed
  set s0 := s.onMember fun m => { m with restartsHanded := n } with hs0
  set u := s0.emptyTable with hu
  have orders : s.member.station.takesOrders = true := by
    cases h : s.member.station
    case start => exact absurd h started
    case unaddressed => exact absurd h addressed
    all_goals rfl
  have run : exec .restartCarriedOut s = .next (u.enterStation .listen) := by
    refine congrArg Host.Outcome.next ((s.take_running _ held).trans ?_)
    unfold carryOutRestart
    rw [handed]
    exact if_pos orders
  obtain ⟨v, entered, silenced⟩ := u.enterStation_silent (x := .listen) (fun _ => rfl)
  have listens : v.member.station = .listen := congrArg Membership.station silenced.member
  have changes := (s0.emptyTable_changes.mono
    (b := .waits :: .roster :: stationItems) (by decide)).trans (silenced.changes.mono (by decide))
  have now : v.now = s.now := changes.of_not_mem (i := .clock) (by decide)
  have now' : u.now = s.now := s0.emptyTable_changes.of_not_mem (i := .clock) (by decide)
  obtain ⟨-, role, -⟩ := s0.emptyTable_changes.of_not_mem (i := .fixed) (by decide)
  obtain ⟨-, -, -, cfg, -⟩ := changes.of_not_mem (i := .fixed) (by decide)
  have emptied := s0.emptyTable_member
  have member := silenced.member
  rw [← hu] at emptied
  have restarts (none : s.responder.waiting = []) :
      (u.enterStation .listen).member.restartsHanded = n := by
    have same : u.responder = s.responder := s0.emptyTable_changes.of_not_mem (i := .responder) (by decide)
    rw [enterStation_restarts (by rw [same, none]), emptied]
    rfl
  rw [emptied] at member
  rw [entered, entered_listen listens] at run restarts
  have station : u.member.station = s.member.station := (congrArg Membership.station emptied).trans rfl
  refine ⟨_, run, listens, (congrArg Membership.followed member).trans rfl, restarts, fun free => ?_, fun busy => ?_,
    congrArg (fun n => Timer.running (n + 5000)) now, (congrArg Membership.rollCallWait member).trans rfl,
    (congrArg Membership.duplicateHold member).trans rfl, silenced.queue, (congrArg Membership.tableFull member).trans rfl,
    (congrArg Membership.lineQuietLatch member).trans rfl, (congrArg Membership.tableFullCount member).trans rfl,
    (congrArg Membership.aging member).trans rfl, (congrArg Membership.deferred member).trans rfl, fun online => ?_,
    changes.of_not_mem (i := .drive) (by decide), changes.of_not_mem (i := .setpoints) (by decide),
    ?_, cfg, changes.of_not_mem (i := .latches) (by decide),
    changes.of_not_mem (i := .counters) (by decide), now⟩
  · have free' : s0.occupied = false := free
    refine ⟨(congrArg Membership.table member).trans (if_neg (by simp [free'])),
      (congrArg Membership.emptying member).trans (if_neg (by simp [free'])), fun changed => ?_⟩
    exact toldShare_of_share_eq rfl rfl
      (toldShare_after (emptyTable_told (s := s0) free changed) silenced.sharesOn)
  · have busy' : s0.occupied = true := busy
    exact ⟨(congrArg Membership.table member).trans (if_pos busy'),
      (congrArg Membership.emptying member).trans (if_pos busy')⟩
  · obtain ⟨reset, told, forced⟩ := silenced.left (station.trans online)
    refine ⟨toldShare_of_share_eq rfl rfl (toldShare_before s0.emptyTable_sharesOn told),
      (congrArg Membership.lineQuiet member).trans (if_pos online), fun plant => ?_⟩
    obtain ⟨idle, -, call, qb, minOff⟩ := forced (role.trans plant)
    rw [now'] at minOff
    exact ⟨idle, call, qb, minOff⟩
  · exact sensing_of_sameBut (s := s0) (t := v) changes (by decide)

end Sys2Proof.Machine
end

section
/-! PROOF. The end of START (R1, R25, R33, R34, R60, R105, R167, R184). -/

namespace Sys2Proof.Machine

namespace State
variable (s : State)

/-- What the blocks take of the product, with no hold in effect. -/
theorem takeProduct_given (free : s.drive.hold.isRunning = false) :
    s.takeProduct.setpoints = { figures := homeFigures s.cfg, home := homeFigures s.cfg } ∧
      s.takeProduct.line.sequence = s.address ∧ s.takeProduct.share.standing = s.cfg.fallback ∧
      s.takeProduct.share.record.position = some s.cfg.fallback ∧
      s.takeProduct.drive.target = s.cfg.fallback := by
  set p := ({ s with
      setpoints := { figures := homeFigures s.cfg, home := homeFigures s.cfg }
      line := { s.line with sequence := s.address } } : State).onShare fun u =>
    { u with
      standing := s.cfg.fallback
      record := { u.record with position := some s.cfg.fallback } } with hp
  have taken : s.takeProduct = p.takeTarget s.cfg.fallback := by
    show p.handTarget s.cfg.fallback = _
    unfold handTarget
    rw [show p.drive.hold.isRunning = false from free]
    rfl
  have target := (p.takeTarget_keeps s.cfg.fallback).1
  obtain ⟨d, frame⟩ := p.takeTarget_frame s.cfg.fallback
  rw [taken]
  refine ⟨?_, ?_, ?_, ?_, target⟩ <;> rw [frame] <;> rfl

/-- The timers that the end of START starts. -/
theorem startTimers_started : s.startTimers.member.aging = .running (s.now + 1000) ∧
    s.startTimers.sensing.sample = .running (s.now + 2000) ∧
    (s.role = .plant → s.startTimers.plant.timer = .running (s.now + 5000)) := by
  unfold startTimers
  cases s.role
  · exact ⟨rfl, rfl, fun h => Role.noConfusion h⟩
  · exact ⟨rfl, rfl, fun _ => rfl⟩

/-- A contact in use is compared with its debounced state (R33). -/
theorem compareContacts_compared (c : Contact) (inUse : s.contactInUse c = true) :
    (s.compareContacts.sensing.contact c).debounce =
      if levelActive s.role (s.sensing.contact c).level != (s.sensing.contact c).active
      then s.timer Config.debounceMs else .stopped := by
  unfold compareContacts
  cases c
  · rw [inUse, andIf_true]
    rcases (s.debounceAgain .first).andIf_cases (s.contactInUse .second)
      (fun t => t.debounceAgain .second) with ⟨-, h⟩ | ⟨-, h⟩ <;> rw [h] <;> rfl
  · rw [inUse, andIf_true]
    rcases s.andIf_cases (s.contactInUse .first) (fun t => t.debounceAgain .first) with
      ⟨-, h⟩ | ⟨-, h⟩ <;> rw [h] <;> rfl

theorem contactInUse_of_sameBut {s t : State} {a : List Item} (h : s.sameBut a t) (ha : .fixed ∉ a)
    (c : Contact) : t.contactInUse c = s.contactInUse c := by
  obtain ⟨-, role, -, cfg, -⟩ := h.of_not_mem ha
  unfold contactInUse
  rw [role, cfg]

theorem contact_of_sameBut {s t : State} {a : List Item} (h : s.sameBut a t) (ha : .contacts ∉ a)
    (c : Contact) : t.sensing.contact c = s.sensing.contact c := by
  obtain ⟨first, second⟩ := h.of_not_mem ha
  cases c
  · exact first
  · exact second

end State

open State in
/-- Settles O4: the product is taken, the timers started, the contacts compared, and the first station
state entered, each by its own lemma. -/
theorem startEndHandsOutTheProduct : Obligations.StartEndHandsOutTheProduct := by
  intro s image d held start timer free ⟨inactive1, inactive2⟩
  set l := load s.role image with hl
  set w0 := (s.reach d).configured l with hw0
  set w2 := w0.takeProduct.startTimers with hw2
  set w3 := w2.compareContacts with hw3
  set x : Station := if s.address = 0 then .unaddressed else .listen with hx
  have silent : ∀ k, x.allows k = false := by
    intro k
    rw [hx]
    split_ifs <;> rfl
  obtain ⟨v, entered, silenced⟩ := w3.enterStation_silent silent
  have station : v.member.station = x := congrArg Membership.station silenced.member
  have run : exec (.startEnd image) s = .next v.entered := by
    show Host.Outcome.next _ = _
    rw [timer, s.takeExpiry_running d _ held, ← entered]
    refine congrArg Host.Outcome.next ((congrArg (fun b => andIf (s.reach d) b _)
      (beq_iff_eq.mpr start)).trans ?_)
    show w3.enterStation (if s.address == 0 then _ else _) = _
    simp only [beq_iff_eq]
    rfl
  -- what comes after the product leaves what the blocks took
  have timers := w0.takeProduct.startTimers_changes
  have contacts := w2.compareContacts_changes
  have begun : w0.takeProduct.sameBut [.aging, .sample, .plantTimer, .contacts] w3 :=
    (timers.mono (by decide)).trans (contacts.mono (by decide))
  have enters := silenced.changes.trans ((v.entered_changes).mono (by decide))
  have rest : w0.takeProduct.sameBut ([.aging, .sample, .plantTimer, .contacts] ++ stationItems) v.entered :=
    (begun.mono (by decide)).trans (enters.mono (by decide))
  have all : w0.sameBut startItems v.entered :=
    (w0.takeProduct_changes.mono (by decide)).trans (rest.mono (by decide))
  have after : w2.sameBut (.contacts :: stationItems) v.entered :=
    (contacts.mono (by decide)).trans (enters.mono (by decide))
  have settled : v.entered.line = v.line ∧ v.entered.member.station = x := by
    by_cases none : s.address = 0
    · rw [entered_unaddressed (station.trans (if_pos none))]
      exact ⟨rfl, station⟩
    · rw [entered_listen (station.trans (if_neg none))]
      exact ⟨rfl, station⟩
  obtain ⟨setpoints, sequence, standing, position, target⟩ := w0.takeProduct_given free
  obtain ⟨aging, sample, plantTimer⟩ := w0.takeProduct.startTimers_started
  obtain ⟨-, -, -, cfg, fault, clamped, startTimer, -⟩ :=
    ((w0.takeProduct_changes.mono (b := [.setpoints, .shareResult, .drive, .aging, .sample, .plantTimer,
      .contacts] ++ stationItems) (by decide)).trans (rest.mono (by decide))).of_not_mem
      (i := .fixed) (by decide)
  obtain ⟨-, role, -⟩ := w0.takeProduct_changes.of_not_mem (i := .fixed) (by decide)
  obtain ⟨-, role2, -⟩ := timers.of_not_mem (i := .fixed) (by decide)
  have now : v.entered.now = w0.takeProduct.now := rest.of_not_mem (i := .clock) (by decide)
  have now0 : w0.takeProduct.now = max s.now d := w0.takeProduct_changes.of_not_mem (i := .clock) (by decide)
  have now2 : w2.now = w0.takeProduct.now := timers.of_not_mem (i := .clock) (by decide)
  have now3 : v.now = w0.takeProduct.now :=
    ((begun.mono (b := [.aging, .sample, .plantTimer, .contacts] ++ stationItems) (by decide)).trans
      (silenced.changes.mono (by decide))).of_not_mem (i := .clock) (by decide)
  have aging' : _ = w2.member.aging := after.of_not_mem (i := .aging) (by decide)
  have sample' : _ = w2.sensing.sample := after.of_not_mem (i := .sample) (by decide)
  have plantTimer' : _ = w2.plant.timer := after.of_not_mem (i := .plantTimer) (by decide)
  obtain ⟨record', standing'⟩ := rest.of_not_mem (i := .shareResult) (by decide)
  have drive' : _ = w0.takeProduct.drive := rest.of_not_mem (i := .drive) (by decide)
  have setpoints' : _ = w0.takeProduct.setpoints := rest.of_not_mem (i := .setpoints) (by decide)
  have figures := setpoints'.trans setpoints
  have sequence' : w3.line.sequence = w0.takeProduct.line.sequence :=
    (wire_same (begun.of_not_mem (i := .wire) (by decide))).2.2.2.2.1
  obtain ⟨first, second⟩ := all.of_not_mem (i := .channels) (by decide)
  obtain ⟨table, -⟩ := all.of_not_mem (i := .roster) (by decide)
  refine ⟨_, run, cfg, fault, clamped, startTimer, now.trans now0, settled.2, fun addressed => ?_,
    ?_, ?_, fun plant => ?_, ?_, ?_, ?_, ?_, ?_, ?_, ?_, ?_, ?_, fun c inUse => ?_, table, first, second⟩
  · rw [entered_listen (station.trans (if_neg addressed))]
    rfl
  · rw [aging', aging, now]
  · rw [sample', sample, now]
  · rw [plantTimer', plantTimer (role.trans plant), now]
  · rw [standing', standing, cfg]
  · rw [record', position, cfg]
  · rw [drive', target, cfg]
  · rw [figures, cfg]
    rfl
  · rw [figures, cfg]
    rfl
  · rw [figures, cfg]
    rfl
  · rw [figures]
  · rw [settled.1, silenced.sequence, sequence', sequence]
    rfl
  · rw [settled.1, silenced.queue]
  · have before : w0.sameBut [.setpoints, .wire, .shareResult, .drive, .aging, .sample, .plantTimer] w2 :=
      (w0.takeProduct_changes.mono (by decide)).trans (timers.mono (by decide))
    have given : w2.sensing.contact c = s.sensing.contact c :=
      contact_of_sameBut before (by decide) c
    have inactive : (s.sensing.contact c).active = false := by
      cases c
      · exact inactive1
      · exact inactive2
    have used : w2.contactInUse c = true :=
      (contactInUse_of_sameBut after (by decide) c).symm.trans inUse
    rw [contact_of_sameBut enters (by decide) c, w2.compareContacts_compared c used, given, inactive,
      Bool.bne_false, now]
    show (if levelActive w2.role _ = true then Timer.running (w2.now + 2000) else _) = _
    rw [now2, show w2.role = s.role from role2.trans role]

end Sys2Proof.Machine
end

section
/-! PROOF. Attempts of the line controller, the end of a transmission, and the stuck line (R166 to R171). -/

namespace Sys2Proof.Machine

/-! ### The head of the queue (R166) -/

theorem lowest_least {xs : List Nat} : ∀ {b : Nat}, lowest xs = some b → b ∈ xs ∧ ∀ y ∈ xs, b ≤ y := by
  induction xs with
  | nil => simp [lowest]
  | cons a rest ih =>
    intro b h
    unfold lowest at h
    split at h
    next c hc =>
      obtain ⟨mem, least⟩ := ih hc
      obtain rfl := Option.some.inj h
      refine ⟨?_, fun y hy => ?_⟩
      · rcases Nat.le_total a c with k | k
        · rw [Nat.min_eq_left k]
          exact List.mem_cons_self
        · rw [Nat.min_eq_right k]
          exact List.mem_cons_of_mem a mem
      · rcases List.mem_cons.mp hy with rfl | hy
        · exact Nat.min_le_left _ _
        · exact (Nat.min_le_right _ _).trans (least y hy)
    next hn =>
      obtain rfl := Option.some.inj h
      have none : rest = [] := by
        cases rest with
        | nil => rfl
        | cons c cs =>
          unfold lowest at hn
          split at hn <;> cases hn
      subst none
      simp

theorem lowest_eq {xs : List Nat} {m : Nat} (mem : m ∈ xs) (least : ∀ y ∈ xs, m ≤ y) :
    lowest xs = some m := by
  cases h : lowest xs with
  | none =>
    cases xs with
    | nil => cases mem
    | cons a rest =>
      unfold lowest at h
      split at h <;> cases h
  | some b =>
    obtain ⟨hb, below⟩ := lowest_least h
    rw [Nat.le_antisymm (below m mem) (least b hb)]

theorem find?_of_split {α : Type} {p : α → Bool} {before after : List α} {a : α}
    (hb : ∀ x ∈ before, p x = false) (ha : p a = true) :
    (before ++ a :: after).find? p = some a :=
  List.find?_eq_some_iff_append.mpr ⟨ha, before, after, rfl, fun x hx => by simp [hb x hx]⟩

/-- The entry of the lowest class, first placed in it, is the head. -/
theorem Line.head_of_split {l : Line} {before after : List TxEntry} {e : TxEntry}
    (split : l.queue = before ++ e :: after) (hb : ∀ y ∈ before, e.kind.urgency < y.kind.urgency)
    (ha : ∀ y ∈ after, e.kind.urgency ≤ y.kind.urgency) : l.head = some e := by
  have lowest' : lowest (l.queue.map fun e => e.kind.urgency) = some e.kind.urgency := by
    refine lowest_eq (List.mem_map.mpr ⟨e, by simp [split], rfl⟩) fun y hy => ?_
    obtain ⟨x, hx, rfl⟩ := List.mem_map.mp hy
    rw [split] at hx
    rcases List.mem_append.mp hx with hx | hx
    · exact (hb x hx).le
    · rcases List.mem_cons.mp hx with rfl | hx
      · exact le_refl _
      · exact ha x hx
  unfold head
  rw [lowest', split]
  exact find?_of_split (fun x hx => by simpa using (hb x hx).ne') (beq_self_eq_true _)

/-- The one entry in flight is the one sent. -/
theorem Line.sending_of_split {l : Line} {before after : List TxEntry} {e : TxEntry}
    (split : l.queue = before ++ e :: after) (flies : e.inFlight = true)
    (others : ∀ y ∈ before ++ after, y.inFlight = false) : l.sending = some e := by
  unfold sending
  rw [split]
  exact find?_of_split (fun x hx => others x (List.mem_append_left _ hx)) flies

theorem landed_of_split {before after : List TxEntry} {e : TxEntry} (flies : e.inFlight = true)
    (others : ∀ y ∈ before ++ after, y.inFlight = false) :
    ((before ++ e :: after).filter fun x => !x.inFlight) = before ++ after := by
  have kept {q : List TxEntry} (h : ∀ y ∈ q, y.inFlight = false) :
      (q.filter fun x => !x.inFlight) = q := List.filter_eq_self.mpr fun y hy => by simp [h y hy]
  rw [List.filter_append, List.filter_cons_of_neg (by simp [flies]),
    kept fun y hy => others y (List.mem_append_left _ hy),
    kept fun y hy => others y (List.mem_append_right _ hy)]

open State in
/-- Settles O52: what stops a wait and what begins one, on the line alone. -/
theorem stuckLineStopsAttempts : Obligations.StuckLineStopsAttempts := by
  refine ⟨fun s held free => ?_, fun s held space => ?_, fun s free mark => ?_, fun s n held stuck => ?_⟩
  · refine congrArg Host.Outcome.next ((s.take_running _ held).trans ?_)
    rw [free]
    rfl
  · set u := s.onLine fun l => { l with stuck := false, space := false, idle := true } with hu
    have run : exec .stuckEnd s = .next u.beginWait := by
      refine congrArg Host.Outcome.next ((s.take_running _ held).trans ?_)
      rw [Bool.or_eq_true _ _ |>.mpr space]
      rfl
    obtain ⟨l, frame⟩ := u.beginWait_frame
    have line := u.beginWait_line
    refine ⟨_, run, ?_, ?_, ?_, ?_, ?_, fun queued none => ?_, ?_⟩
    · rw [line]
      rfl
    · rw [line]
      rfl
    · rw [line]
      rfl
    · rw [line]
      rfl
    · rw [line]
      rfl
    · rw [u.beginWait_draws queued (Line.sending_eq_none.mp none) rfl rfl]
      exact ⟨rfl, rfl⟩
    · rw [frame]
      rfl
  · rcases s.take_cases (fun t => t.andIf (t.line.stuck || t.line.space) fun u =>
      (u.onLine fun l => { l with stuck := false, space := false, idle := true }).beginWait) with
      ⟨-, h⟩ | ⟨-, h⟩
    · exact congrArg Host.Outcome.next h
    · refine congrArg Host.Outcome.next (h.trans ?_)
      rw [free, mark]
      rfl
  · refine congrArg Host.Outcome.next ((s.take_running _ held).trans ?_)
    have stays : s.mayAttempt n = none := by
      unfold mayAttempt
      rw [stuck]
      rfl
    rw [stays]

/-! ### An attempt (R167, R168) -/

namespace State
variable {s : State}

theorem truncate_eq (s : State) : s.truncate = { s with line := { s.line with
    assembly := []
    latches := if s.line.assembly = [] then s.line.latches
      else { s.line.latches with truncated := true } } } := by
  unfold truncate
  by_cases h : s.line.assembly = []
  · rw [if_pos (by simp [h]), if_pos h, ← h]
  · rw [if_neg (by simpa using h), if_neg h]
    rfl

theorem mayAttempt_of_gap {n x : Nat} {e : TxEntry} (free : s.line.stuck = false)
    (none : s.line.sending = none) (wait : s.line.wait = some x) (head : s.line.head = some e) :
    s.mayAttempt n = if gapBits e.kind.urgency x ≤ n then some e else .none := by
  unfold mayAttempt
  rw [free, none, wait, head]
  rfl

end State

open State in
/-- Settles O49: the head's gap decides, and the head's entry alone is put in flight. -/
theorem attemptStartsAfterItsGap : Obligations.AttemptStartsAfterItsGap := by
  intro s n x before after e held free wait split landed hb ha
  have none : s.line.sending = none := Line.sending_eq_none.mpr landed
  have may := mayAttempt_of_gap (n := n) free none wait (Line.head_of_split split hb ha)
  refine ⟨fun gap => ?_, fun early => ?_⟩
  · rw [if_pos (by unfold gapBits; exact gap)] at may
    have run : exec (.attemptStart n) s = .next (s.startAttempt e) := by
      refine congrArg Host.Outcome.next ((s.take_running _ held).trans ?_)
      rw [may]
    set sent : Option (List Byte) := if e.kind.periodic then some (s.periodicBody e.kind) else e.body
    set u := s.truncate.onLine fun l =>
      { l with
        idle := false, wait := Option.none, echoed := 0
        queue := updateFirst (fun x => x.kind.urgency == e.kind.urgency)
          (fun x => { x with inFlight := true, body := sent }) l.queue } with hu
    have started : s.startAttempt e = u.andIf (e.kind == ownKind s.role) fun t =>
      t.onAnnouncer fun a => { a with waiting := false } := rfl
    have line : (s.startAttempt e).line = u.line := by
      rw [started]
      rcases u.andIf_cases (e.kind == ownKind s.role) (fun t => t.onAnnouncer fun a =>
        { a with waiting := false }) with ⟨-, h⟩ | ⟨-, h⟩ <;> rw [h]
      exact u.onAnnouncer_line _
    have first : ∀ y ∈ before, (y.kind.urgency == e.kind.urgency) = false := fun y hy => by
      simpa using (hb y hy).ne'
    refine ⟨_, run, ?_, fun own => ?_, ?_⟩
    · rw [line, hu, truncate_eq, onLine_line]
      simp only
      rw [split, updateFirst_of_split _ first (beq_self_eq_true _)]
      simp only [sent]
      cases e.kind <;> rfl
    · rw [started, beq_iff_eq.mpr own, andIf_true]
      unfold onAnnouncer announcer
      cases hr : u.role <;> simp [hr]
    · obtain ⟨l, a, b, h⟩ := u.andIf_announces (e.kind == ownKind s.role)
        (fun t => t.onAnnouncer fun a => { a with waiting := false }) (u.onAnnouncer_frame _)
      rw [started, h, hu, truncate_eq]
      rfl
  · rw [if_neg (by unfold gapBits; omega)] at may
    refine congrArg Host.Outcome.next ((s.take_running _ held).trans ?_)
    rw [may]

/-! ### The end of a transmission (R168) -/

namespace State
variable {s : State}

theorem share_of_sameBut {t : State} {a : List Item} (h : s.sameBut a t) (hf : .shareFlight ∉ a)
    (hr : .shareResult ∉ a) : t.share = s.share := by
  obtain ⟨flight, mark⟩ := h.of_not_mem hf
  obtain ⟨record, standing⟩ := h.of_not_mem hr
  cases ht : t.share
  cases hs : s.share
  simp_all

/-- The state with the entry in flight gone from the queue and the line idle. -/
def offQueue (s : State) : State :=
  s.onLine fun l =>
    { l with queue := l.queue.filter fun x => !x.inFlight, idle := true, echoed := 0, assembly := [] }

theorem completeSending_eq (s : State) (e : TxEntry) :
    s.completeSending e = (s.offQueue.sentTo e).beginWait := rfl

theorem sentTo_own {e : TxEntry} (own : e.kind = ownKind s.role) :
    s.sentTo e = s.announcementSent (e.body.getD []) := by
  unfold sentTo
  rw [own]
  cases s.role <;> rfl

theorem sentTo_rollCall {e : TxEntry} (h : e.kind = .rollCall) :
    s.sentTo e = s.onMember fun m => { m with rollCallWait := s.timer Config.rollCallWaitMs } := by
  unfold sentTo
  rw [h]

theorem sentTo_reply {e : TxEntry} (h : e.kind = .present ∨ e.kind = .setpointReply) :
    s.sentTo e = s := by
  unfold sentTo
  rcases h with h | h <;> rw [h]

theorem sentTo_result {e : TxEntry} (h : e.kind = .result) : s.sentTo e = s.resultLeft e.use .sent := by
  unfold sentTo
  rw [h]

theorem sentTo_line (s : State) (e : TxEntry) : (s.sentTo e).line = s.line := by
  unfold sentTo
  split
  · exact s.onAnnouncer_line _
  · exact s.onAnnouncer_line _
  · rfl
  · rfl
  · rfl
  · obtain ⟨n, r, h⟩ := s.resultLeft_frame e.use .sent
    rw [h]

/-- The last announced figure and the spacing timer, once an announcement was sent (R57, R140). -/
theorem announcementSent_announcer (s : State) (body : List Byte) :
    (s.announcementSent body).announcer.spacing = s.timer (spacingMs s.role) ∧
      (s.role = .zone → (s.announcementSent body).announcer.last = some (nat1 body 1)) ∧
      (s.role = .plant → (s.announcementSent body).announcer.last = some (nat2 body 2)) := by
  unfold announcementSent onAnnouncer announcer
  cases hr : s.role <;> simp [hr]

/-- A RESTART order whose one answer was sent is handed on (R179). -/
theorem resultLeft_restart (h : s.responder.waiting = [{ done := true, dumpEnd := false }])
    (how : Departure) : (s.resultLeft .restart how).responder.waiting = [] ∧
      (s.resultLeft .restart how).member.restartsHanded = s.member.restartsHanded + 1 := by
  simp [resultLeft, onResponder, handRestarts, h, updateFirst]

theorem resultLeft_dump {d : Dump} (h : s.responder.dump = some d) :
    (s.resultLeft (.dump false) .sent).responder.dump = some { d with nextDue := true } ∧
      (s.resultLeft (.dump true) .sent).responder.dump = none := by
  unfold resultLeft dumpResultLeft
  rw [h]
  exact ⟨rfl, rfl⟩

end State

open State in
/-- Settles O50: the entry leaves the queue, its owner is told, and the line draws for the rest. -/
theorem completedFrameLeavesTheQueue : Obligations.CompletedFrameLeavesTheQueue := by
  intro s before after e held split flies others
  have sending : s.line.sending = some e := Line.sending_of_split split flies others
  have run : exec .transmissionComplete s = .next (s.completeSending e) := by
    refine congrArg Host.Outcome.next ((s.take_running _ held).trans ?_)
    rw [sending]
  set u := s.offQueue.sentTo e with hu
  have line : u.line = s.offQueue.line := s.offQueue.sentTo_line e
  have queue : s.offQueue.line.queue = before ++ after := by
    show s.line.queue.filter _ = _
    rw [split]
    exact landed_of_split flies others
  have changes := exec_changes rfl run
  obtain ⟨l, frame⟩ := u.beginWait_frame
  have after' := u.beginWait_line
  rw [line] at after'
  rw [completeSending_eq, ← hu] at run changes
  have role : s.offQueue.role = s.role := rfl
  refine ⟨_, run, ?_, ?_, ?_, ?_, ?_, ?_, ?_, fun queued free => ?_, fun own => ?_, fun rollCall => ?_,
    fun reply => ?_, fun result use waiting => ?_, fun d result dump => ?_, ?_, ?_, ?_⟩
  · rw [after', queue]
  · rw [after']
    rfl
  · rw [after']
    rfl
  · rw [after']
    rfl
  · rw [after']
    rfl
  · rw [after']
    rfl
  · rw [after']
    rfl
  · rw [u.beginWait_draws (by rw [line, queue]; exact queued)
      (by rw [line, queue]; exact others) (by rw [line]; rfl) (by rw [line]; exact free), onLine_line, line]
    exact ⟨rfl, rfl⟩
  · obtain ⟨spacing, zone, plant⟩ := s.offQueue.announcementSent_announcer (e.body.getD [])
    have same : u.beginWait.announcer = (s.offQueue.announcementSent (e.body.getD [])).announcer := by
      rw [frame, hu, sentTo_own (s := s.offQueue) own]
      rfl
    rw [same]
    refine ⟨spacing, ?_⟩
    cases hr : s.role
    · exact zone hr
    · exact plant hr
  · rw [frame, hu, sentTo_rollCall rollCall]
    rfl
  · rw [frame, hu, sentTo_reply reply]
    rfl
  · have left : u = s.offQueue.resultLeft .restart .sent := by rw [hu, sentTo_result result, use]
    rw [frame, left]
    exact resultLeft_restart (s := s.offQueue) waiting .sent
  · obtain ⟨goesOn, ends⟩ := resultLeft_dump (s := s.offQueue) dump
    refine ⟨fun use => ?_, fun use => ?_⟩
    · rw [frame, hu, sentTo_result result, use]
      exact goesOn
    · rw [frame, hu, sentTo_result result, use]
      exact ends
  · exact changes.of_not_mem (i := .drive) (by decide)
  · exact share_of_sameBut changes (by decide) (by decide)
  · exact (changes.of_not_mem (i := .roster) (by decide)).1

end Sys2Proof.Machine
end

section
/-! PROOF. How the assembler takes the bytes of a frame, one by one (R157 to R162). -/

namespace Sys2Proof.Machine

/-! ### The bytes of a frame (R159, R161) -/

/-- The bytes are no frame judged at its length byte or at its end: the assembler goes on. -/
def goesOn (bs : List Byte) : Prop :=
  (bs.length = 5 → nat1 bs 4 ≤ 32) ∧ (5 ≤ bs.length → bs.length ≠ 7 + nat1 bs 4)

/-- A run of bytes as long as its length byte tells, body length within 32, from the lead on. -/
structure wholeRun (bs : List Byte) : Prop where
  lead : byteAt bs 0 = leadByte
  length : bs.length = 7 + nat1 bs 4
  short : nat1 bs 4 ≤ 32

theorem byteAt_take {bs : List Byte} {i j : Nat} (h : i < j) : byteAt (bs.take j) i = byteAt bs i := by
  simp [byteAt, h]

theorem byteAt_append_left {xs ys : List Byte} {i : Nat} (h : i < xs.length) :
    byteAt (xs ++ ys) i = byteAt xs i := by
  simp [byteAt, List.getElem?_append_left h]

/-- Before its end a whole run goes on at every byte. -/
theorem wholeRun.goesOn_prefix {pre rest : List Byte} (h : wholeRun (pre ++ rest)) (more : rest ≠ []) :
    goesOn pre := by
  have longer : 0 < rest.length := List.length_pos_iff.mpr more
  have total := h.length
  rw [List.length_append] at total
  have same (long : 5 ≤ pre.length) : nat1 (pre ++ rest) 4 = nat1 pre 4 :=
    congrArg BitVec.toNat (byteAt_append_left (by omega))
  refine ⟨fun five => ?_, fun long => ?_⟩
  · rw [← same (by omega)]
    exact h.short
  · rw [← same long]
    omega

theorem Frame.covered_length (f : Frame) : f.covered.length = 4 + f.body.length := by
  simp [covered]
  omega

theorem Frame.bytes_length (f : Frame) : f.bytes.length = 7 + f.body.length := by
  simp [bytes, f.covered_length]
  omega

theorem Frame.nat1_bytes (f : Frame) (h : f.body.length ≤ 32) : nat1 f.bytes 4 = f.body.length := by
  simp only [nat1, byteAt, bytes, covered, byte]
  show (BitVec.ofNat 8 f.body.length).toNat = _
  simp
  omega

theorem Frame.bytes_whole (f : Frame) (h : f.body.length ≤ 32) : wholeRun f.bytes :=
  ⟨rfl, by rw [f.bytes_length, f.nat1_bytes h], by rw [f.nat1_bytes h]; exact h⟩

theorem checkSums_lt (bs : List Byte) : (checkSums bs).1 < 255 ∧ (checkSums bs).2 < 255 := by
  unfold checkSums
  generalize hp : ((0, 0) : Nat × Nat) = p
  have hlt : p.1 < 255 ∧ p.2 < 255 := by simp [← hp]
  clear hp
  induction bs generalizing p with
  | nil => exact hlt
  | cons b rest ih => exact ih _ ⟨Nat.mod_lt _ (by decide), Nat.mod_lt _ (by decide)⟩

theorem byte_toNat {n : Nat} (h : n < 256) : (byte n).toNat = n := by
  simp [byte]
  omega

/-- The bytes of a frame up to its check bytes, and any two bytes behind them, are parsed as the frame;
the check holds exactly for the frame's own. -/
theorem parseFrame_bytes (f : Frame) (h : f.body.length ≤ 32) (x y : Byte) :
    parseFrame (leadByte :: (f.covered ++ [x, y])) =
      (f, x.toNat == (checkSums f.covered).1 && y.toNat == (checkSums f.covered).2) := by
  have n : nat1 (leadByte :: (f.covered ++ [x, y])) 4 = f.body.length := byte_toNat (by omega)
  have body : (leadByte :: (f.covered ++ [x, y])).drop 5 = f.body ++ [x, y] := rfl
  have covered : ((leadByte :: (f.covered ++ [x, y])).drop 1).take (4 + f.body.length) = f.covered := by
    rw [← f.covered_length]
    exact List.take_left
  have last (i : Nat) : nat1 (leadByte :: (f.covered ++ [x, y])) (5 + f.body.length + i) =
      nat1 [x, y] i := by
    have place : 5 + f.body.length + i = f.covered.length + i + 1 := by
      rw [f.covered_length]
      omega
    rw [place]
    simp only [nat1, byteAt, List.getD_cons_succ]
    rw [List.getD_append_right _ _ _ _ (Nat.le_add_right _ _), Nat.add_sub_cancel_left]
  have a : nat1 (leadByte :: (f.covered ++ [x, y])) (5 + f.body.length) = x.toNat := last 0
  have b : nat1 (leadByte :: (f.covered ++ [x, y])) (6 + f.body.length) = y.toNat := by
    rw [show 6 + f.body.length = 5 + f.body.length + 1 by omega]
    exact last 1
  unfold parseFrame
  simp only [n, body, covered, a, b]
  simp [byteAt, Frame.covered]

theorem Frame.bytes_parse (f : Frame) (h : f.body.length ≤ 32) : parseFrame f.bytes = (f, true) := by
  obtain ⟨a, b⟩ := checkSums_lt f.covered
  unfold bytes
  rw [parseFrame_bytes f h, byte_toNat (by omega), byte_toNat (by omega)]
  simp

/-! ### One byte (R157, R160 to R162, R167) -/

namespace State
variable {s : State}

theorem lineIdle_stands (s : State) (h : s.line.sending.isSome = true ∨ s.line.idle = true) :
    s.lineIdle = s := if_pos (by simpa using h)

theorem lineIdle_becomes (none : s.line.sending = none) (busy : s.line.idle = false) :
    s.lineIdle = (s.onLine fun l => { l with idle := true, space := false }).beginWait :=
  if_neg (by simp [none, busy])

/-- The line with a byte on it: A in assembly, k bytes of the own frame echoed, q the sequence. -/
def hearing (s : State) (A : List Byte) (k q : Nat) : State :=
  { s with line := { s.line with
      assembly := A, echoed := k, sequence := q, idle := false, wait := none, space := false } }

theorem hearing_hearing (A B : List Byte) (k q l r : Nat) :
    (s.hearing A k q).hearing B l r = s.hearing B l r := rfl

/-- While an attempt is in flight a byte draws nothing. -/
theorem byteBegins_sending {n : Nat} (sending : s.line.sending.isSome = true)
    (near : n ≤ 20 ∨ s.line.assembly = []) :
    s.byteBegins n = s.hearing s.line.assembly s.line.echoed s.line.sequence := by
  have idle : s.andIf (decide (0 < n)) lineIdle = s := by
    rcases s.andIf_cases (decide (0 < n)) lineIdle with ⟨-, h⟩ | ⟨-, h⟩ <;> rw [h]
    exact s.lineIdle_stands (.inl sending)
  have whole : s.andIf (decide (20 < n)) truncate = s := by
    rcases near with h | h
    · rw [decide_eq_false (by omega), andIf_false]
    · rcases s.andIf_cases (decide (20 < n)) truncate with ⟨-, k⟩ | ⟨-, k⟩ <;> rw [k]
      exact if_pos (by simp [h])
  unfold byteBegins
  rw [idle, whole]
  rfl

/-- With no attempt in flight, idle before a byte may have drawn, and more than 2 byte-times of it
abandon a frame in assembly. -/
theorem byteBegins_quiet (none : s.line.sending = none) (n : Nat) : ∃ q,
    s.byteBegins n = (s.andIf (decide (20 < n)) truncate).hearing
      (if 20 < n then [] else s.line.assembly) s.line.echoed q ∧
    (n = 0 ∨ s.line.idle = true → q = s.line.sequence) := by
  have idle : ∃ i p w q, s.andIf (decide (0 < n)) lineIdle =
      { s with line := { s.line with idle := i, space := p, wait := w, sequence := q } } ∧
      (n = 0 ∨ s.line.idle = true → q = s.line.sequence) := by
    rcases s.andIf_cases (decide (0 < n)) lineIdle with ⟨hn, h⟩ | ⟨-, h⟩ <;> rw [h]
    · cases busy : s.line.idle
      · rw [lineIdle_becomes none busy]
        set u := s.onLine fun l => { l with idle := true, space := false }
        obtain ⟨l, frame⟩ := u.beginWait_frame
        have line := u.beginWait_line
        rw [frame] at line ⊢
        refine ⟨true, false, l.wait, l.sequence, ?_, fun k => ?_⟩
        · rw [show l = _ from line]
          rfl
        · have : 0 < n := by simpa using hn
          rcases k with k | k
          · omega
          · cases k
      · rw [s.lineIdle_stands (.inr busy)]
        exact ⟨_, _, _, _, rfl, fun _ => rfl⟩
    · exact ⟨_, _, _, _, rfl, fun _ => rfl⟩
  obtain ⟨i, p, w, q, before, drew⟩ := idle
  refine ⟨q, ?_, drew⟩
  unfold byteBegins
  rw [before]
  by_cases far : 20 < n
  · rw [decide_eq_true far, andIf_true, andIf_true, if_pos far, truncate_eq, truncate_eq]
    rfl
  · rw [decide_eq_false far, andIf_false, andIf_false, if_neg far]
    rfl

/-- A byte of a frame close behind the one before, or the first one. -/
theorem byteBegins_near (none : s.line.sending = none) {n : Nat} (near : n ≤ 20 ∨ s.line.assembly = []) :
    ∃ q, s.byteBegins n = s.hearing s.line.assembly s.line.echoed q ∧
      (n = 0 ∨ s.line.idle = true → q = s.line.sequence) := by
  obtain ⟨q, begins, drew⟩ := byteBegins_quiet none n
  refine ⟨q, begins.trans ?_, drew⟩
  by_cases far : 20 < n
  · have empty : s.line.assembly = [] := near.resolve_left (by omega)
    rw [decide_eq_true far, andIf_true, if_pos far, truncate_eq, if_pos empty, empty]
    rfl
  · rw [decide_eq_false far, andIf_false, if_neg far]

theorem hearByte_quiet (none : s.line.sending = none) (b : LineByte) :
    s.hearByte b = (s.byteBegins b.idleBits).assemble b := by
  have still : (s.byteBegins b.idleBits).line.sending = s.line.sending := by
    obtain ⟨q, begins, -⟩ := byteBegins_quiet none b.idleBits
    rw [begins]
    rcases s.andIf_cases (decide (20 < b.idleBits)) truncate with ⟨-, h⟩ | ⟨-, h⟩ <;> rw [h]
    · rw [truncate_eq]
      rfl
    · rfl
  unfold hearByte
  extract_lets s1
  rw [show s1.line.sending = _ from still.trans none]

theorem assemble_lead {b : LineByte} (empty : s.line.assembly = []) (idle : 20 ≤ b.idleBits)
    (lead : b.value = leadByte) : s.assemble b = s.onLine fun l => { l with assembly := [b.value] } := by
  unfold assemble
  rw [if_pos (by simp [empty]), if_pos (by simp [idle, lead])]

theorem assemble_ignored {b : LineByte} (empty : s.line.assembly = [])
    (h : b.idleBits < 20 ∨ b.value ≠ leadByte) : s.assemble b = s := by
  unfold assemble
  rw [if_pos (by simp [empty]), if_neg]
  rcases h with h | h
  · simp [h]
  · simp [h]

theorem assemble_onward {b : LineByte} (begun : s.line.assembly ≠ [])
    (on : goesOn (s.line.assembly ++ [b.value])) :
    s.assemble b = s.onLine fun l => { l with assembly := s.line.assembly ++ [b.value] } := by
  obtain ⟨five, ends⟩ := on
  unfold assemble judgeAssembly
  rw [if_neg (by simpa using begun), if_neg, if_neg]
  · simpa using fun long => ends (by simpa using long)
  · simpa using fun hl => five (by simpa using hl)

/-- What the assembler makes of a whole run with nothing left in assembly. -/
def judged (s : State) (bs : List Byte) : State :=
  if (parseFrame bs).2 then s.receive (parseFrame bs).1
  else (s.onLatches fun x => { x with check := true }).onCounters fun c =>
    { c with check := saturate c.check 255 }

theorem assemble_whole {b : LineByte} (begun : s.line.assembly ≠ [])
    (whole : wholeRun (s.line.assembly ++ [b.value])) : s.assemble b =
      (s.onLine fun l => { l with assembly := [] }).judged (s.line.assembly ++ [b.value]) := by
  obtain ⟨-, length, short⟩ := whole
  unfold assemble judgeAssembly
  rw [if_neg (by simpa using begun), if_neg, if_pos]
  · rfl
  · simp only [Bool.and_eq_true, decide_eq_true_eq, beq_iff_eq]
    exact ⟨by omega, length⟩
  · simp only [Bool.and_eq_true, decide_eq_true_eq, beq_iff_eq]
    omega

theorem assemble_long {b : LineByte} (begun : s.line.assembly ≠ [])
    (five : (s.line.assembly ++ [b.value]).length = 5) (long : 32 < b.value.toNat) : s.assemble b =
      (s.onLine fun l => { l with assembly := [] }).onLatches fun x => { x with length := true } := by
  have last : nat1 (s.line.assembly ++ [b.value]) 4 = b.value.toNat := by
    have four : s.line.assembly.length = 4 := by simpa using five
    simp [nat1, byteAt, ← four]
  unfold assemble judgeAssembly
  rw [if_neg (by simpa using begun), if_pos]
  rw [five, last]
  simpa using long

/-! ### Runs of bytes with no attempt in flight -/

/-- The first byte of a frame. -/
theorem hearByte_lead (none : s.line.sending = none) (empty : s.line.assembly = []) {b : LineByte}
    (idle : 20 ≤ b.idleBits) (lead : b.value = leadByte) : ∃ q,
    s.hearByte b = s.hearing [b.value] s.line.echoed q ∧ (s.line.idle = true → q = s.line.sequence) := by
  obtain ⟨q, begins, drew⟩ := byteBegins_near none (n := b.idleBits) (.inr empty)
  refine ⟨q, ?_, fun h => drew (.inr h)⟩
  rw [hearByte_quiet none, begins, assemble_lead (by exact empty) idle lead]
  rfl

/-- A byte of a frame behind others. -/
theorem hearByte_close (none : s.line.sending = none) (A : List Byte) (k q : Nat) {b : LineByte}
    (close : b.idleBits ≤ 20) : ∃ q', (s.hearing A k q).hearByte b = (s.hearing A k q').assemble b ∧
      (b.idleBits = 0 → q' = q) := by
  have none' : (s.hearing A k q).line.sending = .none := none
  obtain ⟨q', begins, drew⟩ := byteBegins_near none' (n := b.idleBits) (.inl close)
  refine ⟨q', ?_, fun h => drew (.inl h)⟩
  rw [hearByte_quiet none', begins]
  rfl

/-- Bytes behind A that go on with it. -/
theorem hears_onward (none : s.line.sending = none) (k : Nat) : ∀ (run : List LineByte) {A : List Byte}
    {q : Nat}, A ≠ [] → (∀ b ∈ run, b.idleBits ≤ 20) →
    (∀ pre rest, run.map LineByte.value = pre ++ rest → pre ≠ [] → goesOn (A ++ pre)) →
    ∃ q', run.foldl hearByte (s.hearing A k q) = s.hearing (A ++ run.map LineByte.value) k q' ∧
      ((∀ b ∈ run, b.idleBits = 0) → q' = q) := by
  intro run
  induction run with
  | nil => exact fun {A q} _ _ _ => ⟨q, by simp, fun _ => rfl⟩
  | cons b rest ih =>
    intro A q begun close on
    obtain ⟨q1, heard, drew⟩ := hearByte_close none A k q (close b (by simp))
    have step : (s.hearing A k q).hearByte b = s.hearing (A ++ [b.value]) k q1 := by
      rw [heard, assemble_onward begun (on [b.value] (rest.map LineByte.value) rfl (by simp))]
      rfl
    obtain ⟨q2, rest', drew'⟩ := ih (A := A ++ [b.value]) (q := q1) (by simp)
      (fun c hc => close c (by simp [hc])) (fun pre post hp hn => by
        have more := on (b.value :: pre) post (by simp [hp]) (by simp)
        simpa using more)
    refine ⟨q2, ?_, fun zero => (drew' fun c hc => zero c (by simp [hc])).trans (drew (zero b (by simp)))⟩
    rw [List.foldl_cons, step, rest']
    simp

/-- A byte handed to the assembler behind A, and the bytes behind it, end a whole run. -/
theorem assembles_whole (none : s.line.sending = none) (k : Nat) : ∀ (rest : List LineByte) {A : List Byte}
    {b : LineByte} {q : Nat}, A ≠ [] → (∀ c ∈ rest, c.idleBits ≤ 20) →
    wholeRun (A ++ b.value :: rest.map LineByte.value) →
    ∃ q', rest.foldl hearByte ((s.hearing A k q).assemble b) =
        (s.hearing [] k q').judged (A ++ b.value :: rest.map LineByte.value) ∧
      ((∀ c ∈ rest, c.idleBits = 0) → q' = q) := by
  intro rest
  induction rest with
  | nil =>
    intro A b q begun _ whole
    exact ⟨q, assemble_whole (s := s.hearing A k q) begun whole, fun _ => rfl⟩
  | cons c rest ih =>
    intro A b q begun close whole
    have split : A ++ b.value :: (c :: rest).map LineByte.value =
        (A ++ [b.value]) ++ c.value :: rest.map LineByte.value := by simp
    have on : goesOn (A ++ [b.value]) := by
      rw [split] at whole
      exact whole.goesOn_prefix (by simp)
    obtain ⟨q1, heard, drew⟩ := hearByte_close none (A ++ [b.value]) k q (close c (by simp))
    obtain ⟨q2, rest', drew'⟩ := ih (A := A ++ [b.value]) (b := c) (q := q1) (by simp)
      (fun d hd => close d (by simp [hd])) (by rwa [← split])
    refine ⟨q2, ?_, fun zero => (drew' fun d hd => zero d (by simp [hd])).trans (drew (zero c (by simp)))⟩
    rw [List.foldl_cons, assemble_onward (s := s.hearing A k q) begun on, split, ← rest', ← heard]
    rfl

/-- A whole run, from its lead to its last byte. -/
theorem hears_whole (none : s.line.sending = none) (empty : s.line.assembly = []) {run : List LineByte}
    {bs : List Byte} (on : bytesOnLine run bs) (whole : wholeRun bs) : ∃ q,
    run.foldl hearByte s = (s.hearing [] s.line.echoed q).judged bs ∧
      (s.line.idle = true → (∀ b ∈ run.tail, b.idleBits = 0) → q = s.line.sequence) := by
  obtain ⟨rfl, idle, close⟩ := on
  have ⟨lead, length, _⟩ := whole
  cases run with
  | nil =>
    simp at length
    omega
  | cons a run =>
    cases run with
    | nil => simp at length; omega
    | cons b rest =>
      obtain ⟨q, first, drew⟩ := hearByte_lead none empty (idle a (by simp)) (by simpa [byteAt] using lead)
      obtain ⟨q1, second, drew1⟩ := hearByte_close none [a.value] s.line.echoed q (close b (by simp))
      obtain ⟨q2, rest', drew2⟩ := assembles_whole none s.line.echoed rest (A := [a.value]) (b := b)
        (q := q1) (by simp) (fun c hc => close c (by simp [hc])) whole
      refine ⟨q2, ?_, fun start zero => ?_⟩
      · rw [List.foldl_cons, List.foldl_cons, first, second, rest']
        rfl
      · rw [drew2 fun c hc => zero c (by simp [hc]), drew1 (zero b (by simp)), drew start]

end State

end Sys2Proof.Machine
end

section
/-! PROOF. Runs of bytes and framing errors on a line with no attempt in flight (R157 to R162, R167). -/

namespace Sys2Proof.Machine

namespace State
variable {s : State}

/-- A line that becomes idle draws once for what is queued. -/
theorem lineIdle_ended (none : s.line.sending = none) (busy : s.line.idle = false) : ∃ w q,
    s.lineIdle = { s with line := { s.line with idle := true, space := false, wait := w, sequence := q } } ∧
      (s.line.queue ≠ [] → s.line.stuck = false →
        q = (5 * s.line.sequence + 1) % 256 ∧ w = some (q / 32)) := by
  rw [lineIdle_becomes none busy]
  set u := s.onLine fun l => { l with idle := true, space := false }
  obtain ⟨l, frame⟩ := u.beginWait_frame
  have line := u.beginWait_line
  refine ⟨u.beginWait.line.wait, u.beginWait.line.sequence, ?_, fun queued free => ?_⟩
  · rw [frame] at line ⊢
    rw [show l = _ from line]
    rfl
  · rw [u.beginWait_draws queued (Line.sending_eq_none.mp none) rfl free]
    exact ⟨rfl, rfl⟩

theorem canHear_of_lead {run : List LineByte} (lead : ∀ b ∈ run.head?, 20 ≤ b.idleBits) (l : Line) :
    l.canHear run = true := by
  cases run with
  | nil => rfl
  | cons b rest =>
    have idle : 20 ≤ b.idleBits := lead b (by simp)
    simp [Line.canHear, Line.canBegin, show 0 < b.idleBits by omega]

/-- Bytes outside a frame leave the assembler. -/
theorem hears_ignored : ∀ (run : List LineByte) {s : State}, s.line.sending = none → s.line.assembly = [] →
    (∀ b ∈ run, b.idleBits < 20 ∨ b.value ≠ leadByte) → run ≠ [] →
    ∃ q, run.foldl hearByte s = s.hearing [] s.line.echoed q := by
  intro run
  induction run with
  | nil => exact fun _ _ _ h => absurd rfl h
  | cons b rest ih =>
    intro s none empty ignorable _
    obtain ⟨q, begins, -⟩ := byteBegins_near none (n := b.idleBits) (.inr empty)
    have heard : s.hearByte b = s.hearing [] s.line.echoed q := by
      rw [hearByte_quiet none, begins, empty,
        assemble_ignored (by rfl) (ignorable b List.mem_cons_self)]
    rw [List.foldl_cons, heard]
    cases rest with
    | nil => exact ⟨q, rfl⟩
    | cons c rest =>
      exact ih (s := s.hearing [] s.line.echoed q) none rfl
        (fun d hd => ignorable d (List.mem_cons_of_mem b hd)) (List.cons_ne_nil _ _)

/-- The bytes of a frame begun and not ended. -/
theorem hears_begun (none : s.line.sending = none) (empty : s.line.assembly = []) {b : LineByte}
    {rest : List LineByte} (idle : 20 ≤ b.idleBits) (lead : b.value = leadByte)
    (close : ∀ c ∈ rest, c.idleBits ≤ 20) (few : rest.length ≤ 3) : ∃ q,
    (b :: rest).foldl hearByte s =
      s.hearing (b.value :: rest.map LineByte.value) s.line.echoed q := by
  obtain ⟨q, first, -⟩ := hearByte_lead none empty idle lead
  obtain ⟨q1, on, -⟩ := hears_onward none s.line.echoed rest (A := [b.value]) (q := q) (by simp) close
    fun pre post hp _ => by
      have short : pre.length ≤ 3 := by
        have all := congrArg List.length hp
        simp only [List.length_map, List.length_append] at all
        omega
      refine ⟨fun five => ?_, fun long => ?_⟩
      · simp only [List.length_append, List.length_cons, List.length_nil] at five
        omega
      · simp only [List.length_append, List.length_cons, List.length_nil] at long
        omega
  exact ⟨q1, by rw [List.foldl_cons, first, on]; rfl⟩

/-- The line after a byte with a framing error, before an attempt whose echo it was is lost. -/
def spoiled (s : State) (n : Nat) : State :=
  (((s.byteBegins n).onLatches fun x => { x with framing := true }).onCounters fun c =>
    { c with framing := saturate c.framing 255 }).onLine fun l => { l with assembly := [] }

theorem badByte_grounded {n : Nat} (none : (s.spoiled n).line.sending = none) :
    s.badByte n = s.spoiled n := by
  show (match (s.spoiled n).line.sending with
    | some e => (s.spoiled n).loseAttempt e
    | .none => s.spoiled n) = _
  rw [none]

theorem badByte_flying {n : Nat} {e : TxEntry} (flies : (s.spoiled n).line.sending = some e) :
    s.badByte n = (s.spoiled n).loseAttempt e := by
  show (match (s.spoiled n).line.sending with
    | some e => (s.spoiled n).loseAttempt e
    | .none => s.spoiled n) = _
  rw [flies]

/-- A framing error with no attempt in flight. -/
theorem badByte_quiet (none : s.line.sending = none) (n : Nat) : ∃ q, s.badByte n =
    { s with line := { s.line with
        assembly := [], sequence := q, idle := false, wait := .none, space := false
        latches := { s.line.latches with
          framing := true
          truncated := s.line.latches.truncated || (decide (20 < n) && !s.line.assembly.isEmpty) }
        counters := { s.line.counters with framing := min 255 (s.line.counters.framing + 1) } } } := by
  obtain ⟨q, begins, -⟩ := byteBegins_quiet none n
  refine ⟨q, ?_⟩
  have whole : s.andIf (decide (20 < n)) truncate = { s with line := { s.line with
      assembly := if 20 < n then [] else s.line.assembly
      latches := { s.line.latches with truncated :=
        s.line.latches.truncated || (decide (20 < n) && !s.line.assembly.isEmpty) } } } := by
    by_cases far : 20 < n
    · rw [decide_eq_true far, andIf_true, truncate_eq, if_pos far]
      by_cases empty : s.line.assembly = []
      · simp [empty]
      · rw [if_neg empty]
        simp [empty]
    · rw [decide_eq_false far, andIf_false, if_neg far]
      simp
  have grounded : (s.spoiled n).line.sending = .none := by
    unfold spoiled
    rw [begins, whole]
    exact none
  rw [badByte_grounded grounded]
  unfold spoiled
  rw [begins, whole]
  rfl

/-- A run begun by its lead is heard. -/
theorem hearRun_of_lead {run : List LineByte} (held : s.held = false)
    (lead : ∀ b ∈ run.head?, 20 ≤ b.idleBits) :
    exec (.receivedFrame run) s = .next (s.hearRun run) ∧ exec (.length run) s = .next (s.hearRun run) ∧
      exec (.truncated run) s = .next (s.hearRun run).truncate := by
  refine ⟨?_, ?_, ?_⟩ <;>
    exact congrArg Host.Outcome.next ((s.take_running _ held).trans (if_pos (canHear_of_lead lead _)))

end State

open State in
/-- Settles O48: a run is assembled byte by byte, ends the frame as its bytes say, and leaves the line
idle. -/
theorem badFramesAreAbandoned : Obligations.BadFramesAreAbandoned := by
  refine ⟨?long, ?check, ?ignored, ?standing, ?truncated, ?short, ?space, ?framing⟩
  case long =>
    intro s d a k n run held long on empty none
    obtain ⟨values, lead, close⟩ := on
    obtain ⟨-, run', -⟩ := hearRun_of_lead held lead
    obtain ⟨b0, b1, b2, b3, b4, rfl⟩ : ∃ b0 b1 b2 b3 b4, run = [b0, b1, b2, b3, b4] := by
      match run, congrArg List.length values with
      | [b0, b1, b2, b3, b4], _ => exact ⟨b0, b1, b2, b3, b4, rfl⟩
    simp only [List.map_cons, List.map_nil, List.cons.injEq, and_true] at values
    obtain ⟨v0, -, -, -, v4⟩ := values
    obtain ⟨q, four⟩ := hears_begun none empty (b := b0) (rest := [b1, b2, b3]) (lead b0 (by simp)) v0
      (fun c hc => close c (by simp at hc ⊢; tauto)) (by simp)
    obtain ⟨q1, fifth, -⟩ := hearByte_close none (b0.value :: [b1, b2, b3].map LineByte.value)
      s.line.echoed q (close b4 (by simp))
    have heard : [b0, b1, b2, b3, b4].foldl hearByte s =
        (s.hearing [] s.line.echoed q1).onLatches fun x => { x with length := true } := by
      show hearByte ([b0, b1, b2, b3].foldl hearByte s) b4 = _
      rw [four, fifth, assemble_long (by simp [hearing]) rfl (by rw [v4]; exact long)]
      rfl
    obtain ⟨w, q2, ended, -⟩ := lineIdle_ended
      (s := (s.hearing [] s.line.echoed q1).onLatches fun x => { x with length := true }) none rfl
    unfold hearRun at run'
    rw [heard, ended] at run'
    exact ⟨_, run', rfl, rfl, rfl, rfl, rfl⟩
  case check =>
    intro s f x y run held short on wrong empty none
    have leads : f.bytes.take (5 + f.body.length) = leadByte :: f.covered := by
      have five : 5 + f.body.length = (leadByte :: f.covered).length := by
        simp [f.covered_length]
        omega
      rw [five]
      exact List.take_left
    have suffix : f.bytes.drop (5 + f.body.length) =
        [byte (checkSums f.covered).1, byte (checkSums f.covered).2] := by
      have five : 5 + f.body.length = (leadByte :: f.covered).length := by
        simp [f.covered_length]
        omega
      rw [five]
      exact List.drop_left
    rw [leads, List.cons_append] at on
    rw [suffix] at wrong
    have n : nat1 (leadByte :: (f.covered ++ [x, y])) 4 = f.body.length := byte_toNat (by omega)
    have whole : wholeRun (leadByte :: (f.covered ++ [x, y])) :=
      ⟨rfl, by rw [n]; simp [f.covered_length]; omega, by rw [n]; exact short⟩
    obtain ⟨run', -, -⟩ := hearRun_of_lead held on.lead
    obtain ⟨q, heard, -⟩ := hears_whole none empty on whole
    have failed : (parseFrame (leadByte :: (f.covered ++ [x, y]))).2 = false := by
      rw [parseFrame_bytes f short, Bool.eq_false_iff]
      intro sums
      simp only [Bool.and_eq_true, beq_iff_eq] at sums
      rw [← sums.1, ← sums.2] at wrong
      simp [byte] at wrong
    have judged' : (s.hearing [] s.line.echoed q).judged (leadByte :: (f.covered ++ [x, y])) =
        ((s.hearing [] s.line.echoed q).onLatches fun x => { x with check := true }).onCounters fun c =>
          { c with check := saturate c.check 255 } := if_neg (by simp [failed])
    obtain ⟨w, q2, ended, -⟩ := lineIdle_ended
      (s := ((s.hearing [] s.line.echoed q).onLatches fun x => { x with check := true }).onCounters fun c =>
          { c with check := saturate c.check 255 }) none rfl
    unfold hearRun at run'
    rw [heard, judged', ended] at run'
    exact ⟨_, run', rfl, rfl, rfl, rfl, rfl, rfl, rfl⟩
  case ignored =>
    intro s run held some ignorable empty none hears
    have run' : exec (.receivedFrame run) s = .next (s.hearRun run) := by
      have can : s.line.canHear run = true := by
        cases run with
        | nil => rfl
        | cons b rest =>
          show (!s.line.space || decide (0 < b.idleBits)) = true
          cases h : s.line.space
          · rfl
          · simpa using hears h b rfl
      exact congrArg Host.Outcome.next ((s.take_running _ held).trans (if_pos can))
    obtain ⟨q, heard⟩ := hears_ignored run none empty ignorable some
    obtain ⟨w, q2, ended, -⟩ := lineIdle_ended (s := s.hearing [] s.line.echoed q) none rfl
    unfold hearRun at run'
    rw [heard, ended] at run'
    refine ⟨_, run', ?_⟩
    show { s with line := { s.line with assembly := [], idle := true, space := false, wait := w, sequence := q2 } } = _
    rw [← empty]
  case standing =>
    intro s held quiet
    refine congrArg Host.Outcome.next ((s.take_running _ held).trans ?_)
    have stands : s.lineIdle = s := s.lineIdle_stands (quiet.symm.imp_left Option.isSome_iff_ne_none.mpr)
    show s.lineIdle.truncate = _
    rw [stands, truncate_eq]
    split_ifs with empty
    · rw [← empty]
    · rfl
  case truncated =>
    intro s held busy none
    obtain ⟨w, q, ended, draws⟩ := lineIdle_ended none busy
    have run' : exec (.truncated []) s = .next s.lineIdle.truncate :=
      congrArg Host.Outcome.next (s.take_running _ held)
    rw [ended, truncate_eq] at run'
    exact ⟨_, run', rfl, rfl, rfl, rfl, draws, rfl⟩
  case short =>
    intro s d a run held on empty none
    obtain ⟨values, lead, close⟩ := on
    obtain ⟨-, -, run'⟩ := hearRun_of_lead held lead
    obtain ⟨b0, b1, b2, rfl⟩ : ∃ b0 b1 b2, run = [b0, b1, b2] := by
      match run, congrArg List.length values with
      | [b0, b1, b2], _ => exact ⟨b0, b1, b2, rfl⟩
    simp only [List.map_cons, List.map_nil, List.cons.injEq, and_true] at values
    obtain ⟨q, heard⟩ := hears_begun none empty (b := b0) (rest := [b1, b2]) (lead b0 (by simp)) values.1
      (fun c hc => close c hc) (by simp)
    obtain ⟨w, q2, ended, -⟩ := lineIdle_ended
      (s := s.hearing (b0.value :: [b1, b2].map LineByte.value) s.line.echoed q) none rfl
    unfold hearRun at run'
    rw [heard, ended, truncate_eq] at run'
    exact ⟨_, run', rfl, rfl, rfl, rfl, rfl⟩
  case space =>
    intro s lineHeld b run space zero
    have deaf : s.line.canBegin 0 = false := by simp [Line.canBegin, space]
    have mute : s.line.canHear (b :: run) = false := by
      show s.line.canBegin b.idleBits = false
      rw [zero, deaf]
    have ignored {c : State → Bool} (h : c s = false) (act : State → State) :
        s.take (fun t => t.andIf (c t) act) = s := by
      rcases s.take_cases (fun t => t.andIf (c t) act) with ⟨-, k⟩ | ⟨-, k⟩
      · exact k
      · rw [k, h, andIf_false]
    have unheard (act : State → State) :
        (.next (s.take fun t => t.andIf (t.line.canHear (b :: run)) act) : Outcome) = .next s :=
      congrArg Host.Outcome.next (ignored (c := fun t => t.line.canHear (b :: run)) mute act)
    exact ⟨congrArg Host.Outcome.next (ignored (c := fun t => t.line.canBegin 0) deaf _), unheard _,
      unheard _, unheard _⟩
  case framing =>
    intro s n lineHeld held none begins
    have can : s.line.canBegin n = true := by
      rcases begins with h | h <;> simp [Line.canBegin, h]
    obtain ⟨q, bad⟩ := badByte_quiet none n
    have run' : exec (.framingError n lineHeld) s = .next (s.framingError n lineHeld) :=
      congrArg Host.Outcome.next ((s.take_running _ held).trans (if_pos can))
    cases lineHeld
    · obtain ⟨w, q2, ended, draws⟩ := lineIdle_ended (s := s.badByte n) (by rw [bad]; exact none) (by rw [bad])
      have error : s.framingError n false = (s.badByte n).lineIdle := rfl
      rw [error, ended, bad] at run'
      rw [bad] at draws
      exact ⟨_, run', rfl, rfl, rfl, rfl, rfl, fun h => Bool.noConfusion h,
        fun _ => ⟨rfl, rfl, fun queued free => (draws queued free).2⟩, rfl⟩
    · have error : s.framingError n true = (s.badByte n).onLine fun l => { l with space := true } := rfl
      rw [error, bad] at run'
      exact ⟨_, run', rfl, rfl, rfl, rfl, rfl, fun _ => ⟨rfl, rfl, rfl⟩, fun h => Bool.noConfusion h, rfl⟩

end Sys2Proof.Machine
end

section
/-! PROOF. The bytes of a frame received, echoed and lost (R157 to R163, R167 to R170). -/

namespace Sys2Proof.Machine

/-! ### Two frames' bytes (R159) -/

/-- Two lists part at a place, or one begins the other. -/
theorem parts_or_prefix {α : Type} [DecidableEq α] : ∀ xs ys : List α,
    (∃ p x y xs' ys', xs = p ++ x :: xs' ∧ ys = p ++ y :: ys' ∧ x ≠ y) ∨ xs <+: ys ∨ ys <+: xs := by
  intro xs
  induction xs with
  | nil => exact fun ys => .inr (.inl List.nil_prefix)
  | cons x xs ih =>
    intro ys
    cases ys with
    | nil => exact .inr (.inr List.nil_prefix)
    | cons y ys =>
      by_cases h : x = y
      · subst h
        rcases ih ys with ⟨p, a, b, xs', ys', rfl, rfl, hab⟩ | h | h
        · exact .inl ⟨x :: p, a, b, xs', ys', rfl, rfl, hab⟩
        · exact .inr (.inl (List.cons_prefix_cons.mpr ⟨rfl, h⟩))
        · exact .inr (.inr (List.cons_prefix_cons.mpr ⟨rfl, h⟩))
      · exact .inl ⟨[], x, y, xs, ys, rfl, rfl, h⟩

/-- A whole run begins no longer one. -/
theorem wholeRun.eq_of_prefix {xs ys : List Byte} (hx : wholeRun xs) (hy : wholeRun ys) (h : xs <+: ys) :
    xs = ys := by
  obtain ⟨rest, rfl⟩ := h
  have same : nat1 (xs ++ rest) 4 = nat1 xs 4 :=
    congrArg BitVec.toNat (byteAt_append_left (by have := hx.length; omega))
  have total := hy.length
  rw [same, ← hx.length, List.length_append] at total
  have none : rest = [] := List.length_eq_zero_iff.mp (by omega)
  rw [none, List.append_nil]

/-- The bytes of two frames part behind the lead. -/
theorem Frame.bytes_part {f g : Frame} (hf : f.body.length ≤ 32) (hg : g.body.length ≤ 32) (ne : g ≠ f) :
    ∃ p x y xs ys, f.bytes = p ++ x :: xs ∧ g.bytes = p ++ y :: ys ∧ x ≠ y ∧ p ≠ [] := by
  have apart : f.bytes ≠ g.bytes := fun h => ne (by
    have parsed := g.bytes_parse hg
    rw [← h, f.bytes_parse hf] at parsed
    exact (congrArg Prod.fst parsed).symm)
  rcases parts_or_prefix f.bytes g.bytes with ⟨p, x, y, xs, ys, hx, hy, hxy⟩ | h | h
  · refine ⟨p, x, y, xs, ys, hx, hy, hxy, ?_⟩
    rintro rfl
    have first : leadByte = x := congrArg (List.headD · 0) hx
    have second : leadByte = y := congrArg (List.headD · 0) hy
    exact hxy (first.symm.trans second)
  · exact absurd ((f.bytes_whole hf).eq_of_prefix (g.bytes_whole hg) h) apart
  · exact absurd ((g.bytes_whole hg).eq_of_prefix (f.bytes_whole hf) h).symm apart

namespace State
variable {s : State}

/-! ### Reception (R162, R163) -/

/-- The line once a frame is counted. -/
def counted (s : State) : Line :=
  { s.line with counters := { s.line.counters with good := (s.line.counters.good + 1) % 65536 } }

theorem receive_line (s : State) (f : Frame) : (s.receive f).line =
    if f.dest.toNat = 0 ∨ f.dest.toNat = s.address then
      if s.line.pair.length < 2 then { s.counted with pair := s.line.pair ++ [f] }
      else { s.counted with
        latches := { s.line.latches with overrun := true }
        counters := { s.counted.counters with overrun := min 255 (s.line.counters.overrun + 1) } }
    else s.counted := by
  unfold receive
  extract_lets s1
  have line : s1.line = s.counted := by
    unfold s1
    cases s.member.lineQuiet.isRunning <;> rfl
  simp only [Bool.or_eq_true, beq_iff_eq]
  split_ifs
  · show { s1.line with pair := s1.line.pair ++ [f] } = _
    rw [line]
    rfl
  · show { s1.line with
      latches := { s1.line.latches with overrun := true }
      counters := { s1.line.counters with overrun := saturate s1.line.counters.overrun 255 } } = _
    rw [line]
    rfl
  · exact line

/-- The frame's own bytes are received as the frame. -/
theorem judged_bytes (s : State) (f : Frame) (h : f.body.length ≤ 32) : s.judged f.bytes = s.receive f := by
  unfold judged
  rw [f.bytes_parse h]
  rfl

/-- A frame received while nothing is sent leaves the line to become idle. -/
theorem received_ended (none : s.line.sending = none) (busy : s.line.idle = false) (f : Frame) : ∃ w q,
    (s.receive f).lineIdle = { s.receive f with line := { (s.receive f).line with
        idle := true, space := false, wait := w, sequence := q } } ∧
      (s.line.queue ≠ [] → s.line.stuck = false →
        q = (5 * s.line.sequence + 1) % 256 ∧ w = some (q / 32)) := by
  have ⟨queue, idle, stuck, sequence⟩ : (s.receive f).line.queue = s.line.queue ∧
      (s.receive f).line.idle = s.line.idle ∧ (s.receive f).line.stuck = s.line.stuck ∧
      (s.receive f).line.sequence = s.line.sequence := by
    rw [receive_line]
    split_ifs <;> exact ⟨rfl, rfl, rfl, rfl⟩
  obtain ⟨w, q, ended, draws⟩ := lineIdle_ended (s := s.receive f)
    (by unfold Line.sending; rw [queue]; exact none) (idle.trans busy)
  rw [queue, stuck, sequence] at draws
  exact ⟨w, q, ended, draws⟩

/-! ### The own frame's echo (R168) -/

/-- A byte while an attempt is in flight. -/
theorem hearByte_sending {e : TxEntry} (sending : s.line.sending = some e) {b : LineByte}
    (near : b.idleBits ≤ 20 ∨ s.line.assembly = []) : s.hearByte b =
      if (s.frameOf e).bytes[s.line.echoed]? = some b.value then
        (s.hearing s.line.assembly s.line.echoed s.line.sequence).echoMatches e b
      else ((s.hearing s.line.assembly s.line.echoed s.line.sequence).loseAttempt e).assemble b := by
  have begins := byteBegins_sending (s := s) (n := b.idleBits) (by rw [sending]; rfl) near
  unfold hearByte
  rw [begins]
  extract_lets s1
  rw [show s1.line.sending = some e from sending]
  simp only [beq_iff_eq]
  rfl

/-- An echo as sent, before the last one. -/
theorem hearByte_echo {e : TxEntry} (sending : s.line.sending = some e) {b : LineByte}
    (near : b.idleBits ≤ 20 ∨ s.line.assembly = [])
    (sent : (s.frameOf e).bytes[s.line.echoed]? = some b.value)
    (more : s.line.echoed + 1 < (s.frameOf e).bytes.length) : s.hearByte b =
      (s.hearing s.line.assembly (s.line.echoed + 1) s.line.sequence).assemble b := by
  rw [hearByte_sending sending near, if_pos sent]
  exact if_neg (by exact Nat.not_le.mpr more)

/-- The own bytes behind those in assembly, short of the last. -/
theorem hears_echo {e : TxEntry} (sending : s.line.sending = some e) :
    ∀ (run : List LineByte) {A rest : List Byte}, A ≠ [] → rest ≠ [] → (∀ b ∈ run, b.idleBits ≤ 20) →
      wholeRun (s.frameOf e).bytes → (s.frameOf e).bytes = A ++ run.map LineByte.value ++ rest →
      run.foldl hearByte (s.hearing A A.length s.line.sequence) =
        s.hearing (A ++ run.map LineByte.value) (A.length + run.length) s.line.sequence := by
  intro run
  induction run with
  | nil => exact fun {A rest} _ _ _ _ _ => by simp
  | cons b run ih =>
    intro A rest begun more close whole bytes
    have parted : (s.frameOf e).bytes = A ++ [b.value] ++ (run.map LineByte.value ++ rest) := by
      rw [bytes]
      simp
    have on : goesOn (A ++ [b.value]) := by
      rw [parted] at whole
      exact whole.goesOn_prefix (by simp [more])
    have step : (s.hearing A A.length s.line.sequence).hearByte b =
        s.hearing (A ++ [b.value]) (A ++ [b.value]).length s.line.sequence := by
      rw [hearByte_echo (s := s.hearing A A.length s.line.sequence) sending (.inl (close b (by simp)))
        (by show (s.frameOf e).bytes[A.length]? = _; rw [parted]; simp)
        (by show A.length + 1 < (s.frameOf e).bytes.length
            have : 0 < rest.length := List.length_pos_iff.mpr more
            rw [parted]
            simp
            omega)]
      rw [assemble_onward (by exact begun) (by exact on), List.length_append]
      rfl
    rw [List.foldl_cons, step, ih (by simp) more (fun c hc => close c (by simp [hc])) whole
      (by rw [parted]; simp)]
    simp [Nat.add_assoc, Nat.add_comm 1]

/-- The own bytes from the lead on, short of the last. -/
theorem hears_own {e : TxEntry} (sending : s.line.sending = some e) (empty : s.line.assembly = [])
    (fresh : s.line.echoed = 0) (whole : wholeRun (s.frameOf e).bytes) {run : List LineByte}
    {rest : List Byte} (some : run ≠ []) (more : rest ≠ [])
    (lead : ∀ b ∈ run.head?, 20 ≤ b.idleBits) (close : ∀ b ∈ run.tail, b.idleBits ≤ 20)
    (bytes : (s.frameOf e).bytes = run.map LineByte.value ++ rest) :
    run.foldl hearByte s = s.hearing (run.map LineByte.value) run.length s.line.sequence := by
  cases run with
  | nil => exact absurd rfl some
  | cons b run =>
    have first : b.value = leadByte := by
      have h := whole.lead
      rw [bytes] at h
      exact h
    have step : s.hearByte b = s.hearing [b.value] [b.value].length s.line.sequence := by
      rw [hearByte_echo sending (.inr empty) (by rw [fresh, bytes]; rfl)
        (by rw [fresh]; have := whole.length; omega), fresh, empty]
      exact assemble_lead rfl (lead b rfl) first
    rw [List.foldl_cons, step, hears_echo sending run (A := [b.value]) (by simp) more close whole
      (by rw [bytes]; simp)]
    simp [Nat.add_comm]

/-- The line after a completed transmission. -/
theorem completeSending_ended (s : State) (e : TxEntry) : ∃ w q, (s.completeSending e).line = { s.line with
      queue := s.line.queue.filter fun x => !x.inFlight
      idle := true, echoed := 0, assembly := [], wait := w, sequence := q } ∧
    ((s.line.queue.filter fun x => !x.inFlight) ≠ [] → s.line.stuck = false →
      q = (5 * s.line.sequence + 1) % 256 ∧ w = some (q / 32)) := by
  set u := s.offQueue.sentTo e with hu
  have line : u.line = s.offQueue.line := s.offQueue.sentTo_line e
  have after := u.beginWait_line
  rw [line] at after
  refine ⟨u.beginWait.line.wait, u.beginWait.line.sequence, ?_, fun queued free => ?_⟩
  · rw [completeSending_eq, ← hu, after]
    rfl
  · rw [u.beginWait_draws (by rw [line]; exact queued)
      (by rw [line]; exact fun y hy => by simpa using (List.mem_filter.mp hy).2)
      (by rw [line]; rfl) (by rw [line]; exact free), onLine_line, line]
    exact ⟨rfl, rfl⟩

/-- The line's counters with one lost attempt more (R169). -/
def oneLost (s : State) : LineCounters :=
  { s.line.counters with lostAttempts := min 255 (s.line.counters.lostAttempts + 1) }

/-- A lost attempt short of the sixteenth: its entry keeps its place. -/
theorem loseAttempt_few {before after : List TxEntry} {e : TxEntry}
    (split : s.line.queue = before ++ e :: after) (flies : e.inFlight = true)
    (others : ∀ y ∈ before ++ after, y.inFlight = false) (few : e.lost < 15) :
    s.loseAttempt e = { s with line := { s.line with
      echoed := 0, queue := before ++ e.afterLoss :: after, counters := s.oneLost } } := by
  unfold loseAttempt
  extract_lets s1
  rw [if_neg (by omega)]
  show { s with line := { s.line with
    echoed := 0, queue := updateFirst TxEntry.inFlight TxEntry.afterLoss s.line.queue
    counters := s.oneLost } } = _
  rw [split, updateFirst_of_split _ (fun x hx => others x (List.mem_append_left _ hx)) flies]

end State

/-- Mismatched runs: what stands before the parting place, the byte there, and the bytes behind it. -/
theorem run_of_values {run : List LineByte} {p ys : List Byte} {y : Byte}
    (values : run.map LineByte.value = p ++ y :: ys) : ∃ r1 b r2, run = r1 ++ b :: r2 ∧
      r1.map LineByte.value = p ∧ b.value = y ∧ r2.map LineByte.value = ys := by
  obtain ⟨r1, r2, rfl, first, second⟩ := List.map_eq_append_iff.mp values
  obtain ⟨b, r2, rfl, value, third⟩ := List.map_eq_cons_iff.mp second
  exact ⟨r1, b, r2, rfl, first, value, third⟩

/-- The times before the bytes of a run in two parts. -/
theorem bytesOnLine.parts {r1 r2 : List LineByte} {bs : List Byte} (on : bytesOnLine (r1 ++ r2) bs)
    (begun : r1 ≠ []) : (∀ b ∈ r1.head?, 20 ≤ b.idleBits) ∧ (∀ b ∈ r1.tail, b.idleBits ≤ 20) ∧
      ∀ b ∈ r2, b.idleBits ≤ 20 := by
  obtain ⟨-, lead, close⟩ := on
  cases r1 with
  | nil => exact absurd rfl begun
  | cons a r1 =>
    exact ⟨lead, fun b hb => close b (List.mem_append_left r2 hb),
      fun b hb => close b (List.mem_append_right r1 hb)⟩

open State in
/-- The bytes of a frame from another device, with no attempt in flight (R162, R163). -/
theorem hearRun_received {s : State} {f : Frame} {run : List LineByte} (held : s.held = false)
    (short : f.body.length ≤ 32) (on : bytesOnLine run f.bytes) (empty : s.line.assembly = [])
    (none : s.line.sending = none) : ∃ p w q, exec (.receivedFrame run) s = .next
      { (s.hearing [] s.line.echoed p).receive f with
        line := { ((s.hearing [] s.line.echoed p).receive f).line with
          idle := true, space := false, wait := w, sequence := q } } ∧
      (s.line.idle = true → (∀ b ∈ run.tail, b.idleBits = 0) → s.line.stuck = false →
        s.line.queue ≠ [] → q = (5 * s.line.sequence + 1) % 256 ∧ w = some (q / 32)) := by
  obtain ⟨run', -, -⟩ := hearRun_of_lead held on.lead
  obtain ⟨p, heard, drew⟩ := hears_whole none empty on (f.bytes_whole short)
  rw [judged_bytes _ f short] at heard
  obtain ⟨w, q, ended, draws⟩ := received_ended (s := s.hearing [] s.line.echoed p) none rfl f
  unfold hearRun at run'
  rw [heard, ended] at run'
  refine ⟨p, w, q, run', fun idle zero free queued => ?_⟩
  rw [← drew idle zero]
  exact draws queued free

open State in
/-- The bytes of the frame being sent (R168). -/
theorem hearRun_echoed {s : State} {e : TxEntry} {run : List LineByte} (held : s.held = false)
    (short : (s.frameOf e).body.length ≤ 32) (on : bytesOnLine run (s.frameOf e).bytes)
    (empty : s.line.assembly = []) (sending : s.line.sending = some e) (fresh : s.line.echoed = 0) :
    ∃ p k, exec (.receivedFrame run) s =
      .next ((s.hearing p k s.line.sequence).completeSending e) := by
  have whole := (s.frameOf e).bytes_whole short
  obtain ⟨run', -, -⟩ := hearRun_of_lead held on.lead
  have values := on.values
  obtain ⟨r, b, rfl⟩ : ∃ r b, run = r ++ [b] := by
    rcases List.eq_nil_or_concat run with rfl | ⟨r, b, h⟩
    · have := whole.length
      rw [← values] at this
      simp at this
      omega
    · exact ⟨r, b, by simpa using h⟩
  have bytes : (s.frameOf e).bytes = r.map LineByte.value ++ [b.value] := by
    rw [← values]
    simp
  have long : 6 ≤ r.length := by
    have := whole.length
    rw [bytes] at this
    simp at this
    omega
  have begun : r ≠ [] := fun h => by simp [h] at long
  obtain ⟨lead, close, close'⟩ := on.parts begun
  have heard := hears_own sending empty fresh whole begun (List.cons_ne_nil b.value []) lead close bytes
  set u := s.hearing (r.map LineByte.value) r.length s.line.sequence
  have last : u.hearByte b = (s.hearing (r.map LineByte.value) r.length s.line.sequence).completeSending e := by
    rw [hearByte_sending (s := u) sending (.inl (close' b (by simp))),
      if_pos (by show (s.frameOf e).bytes[r.length]? = _; rw [bytes]; simp)]
    exact if_pos (by show (s.frameOf e).bytes.length ≤ r.length + 1; rw [bytes]; simp)
  refine ⟨r.map LineByte.value, r.length, run'.trans (congrArg Host.Outcome.next ?_)⟩
  unfold hearRun
  rw [List.foldl_append, heard]
  show (u.hearByte b).lineIdle = _
  rw [last]
  obtain ⟨w, q, line, -⟩ := u.completeSending_ended e
  exact lineIdle_stands _ (.inr (by rw [line]))

open State in
/-- The bytes of another frame than the one being sent (R162, R169). -/
theorem hearRun_lost {s : State} {f : Frame} {e : TxEntry} {before after : List TxEntry}
    {run : List LineByte} (held : s.held = false) (short : f.body.length ≤ 32)
    (on : bytesOnLine run f.bytes) (empty : s.line.assembly = [])
    (split : s.line.queue = before ++ e :: after) (flies : e.inFlight = true)
    (others : ∀ y ∈ before ++ after, y.inFlight = false) (fresh : s.line.echoed = 0) (few : e.lost < 15)
    (own : (s.frameOf e).body.length ≤ 32) (ne : s.frameOf e ≠ f) : ∃ p w q,
    exec (.receivedFrame run) s = .next
      (let v := s.onLine fun l => { l with queue := before ++ e.afterLoss :: after, counters := s.oneLost }
      { (v.hearing [] 0 p).receive f with
        line := { ((v.hearing [] 0 p).receive f).line with
          idle := true, space := false, wait := w, sequence := q } }) := by
  obtain ⟨run', -, -⟩ := hearRun_of_lead held on.lead
  have values := on.values
  obtain ⟨p, x, y, xs, ys, ownBytes, bytes, differ, begun⟩ := (s.frameOf e).bytes_part own short ne.symm
  obtain ⟨r1, b, r2, rfl, rfl, rfl, rfl⟩ := run_of_values (values.trans bytes)
  have begun' : r1 ≠ [] := fun h => begun (by simp [h])
  have sending : s.line.sending = some e := Line.sending_of_split split flies others
  obtain ⟨lead, close, close'⟩ := on.parts begun'
  have heard := hears_own sending empty fresh ((s.frameOf e).bytes_whole own) begun' (List.cons_ne_nil x xs)
    lead close ownBytes
  set v := s.onLine fun l =>
    { l with queue := before ++ e.afterLoss :: after, counters := s.oneLost } with hv
  have none : v.line.sending = none := Line.sending_eq_none.mpr fun z hz => by
    rcases List.mem_append.mp hz with h | h
    · exact others z (List.mem_append_left _ h)
    · rcases List.mem_cons.mp h with rfl | h
      · rfl
      · exact others z (List.mem_append_right _ h)
  have lost : (s.hearing (r1.map LineByte.value) r1.length s.line.sequence).hearByte b =
      (v.hearing (r1.map LineByte.value) 0 s.line.sequence).assemble b := by
    rw [hearByte_sending (s := s.hearing (r1.map LineByte.value) r1.length s.line.sequence) sending
        (.inl (close' b List.mem_cons_self)),
      if_neg (by
        show (s.frameOf e).bytes[r1.length]? ≠ _
        rw [ownBytes, List.getElem?_append_right (by simp)]
        simpa using differ)]
    show ((s.hearing (r1.map LineByte.value) r1.length s.line.sequence).loseAttempt e).assemble b = _
    rw [loseAttempt_few (s := s.hearing (r1.map LineByte.value) r1.length s.line.sequence) split flies
      others few]
    rfl
  obtain ⟨q, rest, -⟩ := assembles_whole none 0 r2 (b := b) (q := s.line.sequence) begun
    (fun c hc => close' c (List.mem_cons_of_mem b hc)) (by rw [← bytes]; exact f.bytes_whole short)
  rw [← bytes, judged_bytes _ f short] at rest
  obtain ⟨w, q2, ended, -⟩ := received_ended (s := v.hearing [] 0 q) none rfl f
  refine ⟨q, w, q2, run'.trans (congrArg Host.Outcome.next ?_)⟩
  unfold hearRun
  rw [List.foldl_append, heard, List.foldl_cons, lost, rest, ended]

open State in
/-- Settles O47: a run is received, or is the own echo, or loses the attempt and is received. -/
theorem frameBytesMakeAReceivedFrame : Obligations.FrameBytesMakeAReceivedFrame := by
  refine ⟨fun s f run held short on empty none => ?_,
    fun s e run held short on empty sending fresh => ?_,
    fun s f e before after run held short on empty split flies others fresh few own ne room addressed => ?_⟩
  · obtain ⟨p, w, q, run', draws⟩ := hearRun_received held short on empty none
    set u := s.hearing [] s.line.echoed p with hu
    have line := u.receive_line f
    have member := u.receive_member f
    obtain ⟨m, l, frame⟩ := u.receive_frame f
    refine ⟨_, run', ?_, rfl, rfl, ?_, draws, ?_, fun other => ?_, fun addressed room => ?_,
      fun addressed full => ?_, ?_⟩
    · rw [line]
      split_ifs <;> rfl
    · rw [line]
      split_ifs <;> rfl
    · exact member
    · have other' : ¬(f.dest.toNat = 0 ∨ f.dest.toNat = u.address) := by
        rintro (h | h)
        · exact other.1 h
        · exact other.2 h
      rw [line, if_neg other']
      exact ⟨rfl, rfl, rfl⟩
    · rw [line, if_pos (by exact addressed), if_pos (by exact room)]
      exact ⟨rfl, rfl, rfl⟩
    · rw [line, if_pos (by exact addressed), if_neg (by exact Nat.not_lt.mpr full)]
      exact ⟨rfl, rfl, rfl⟩
    · rw [frame]
      rfl
  · obtain ⟨p, k, run'⟩ := hearRun_echoed held short on empty sending fresh
    obtain ⟨w, q, line, draws⟩ := (s.hearing p k s.line.sequence).completeSending_ended e
    refine ⟨_, run', ?_, ?_, ?_, ?_, ?_, ?_, fun queued free => ?_⟩
    · rw [line]
      rfl
    · rw [line]
    · rw [line]
    · rw [line]
      rfl
    · rw [line]
      rfl
    · rw [line]
      rfl
    · rw [line] at queued ⊢
      exact draws queued free
  · obtain ⟨p, w, q, run'⟩ := hearRun_lost held short on empty split flies others fresh few own ne
    set v := s.onLine fun l =>
      { l with queue := before ++ e.afterLoss :: after, counters := s.oneLost } with hv
    have line := (v.hearing [] 0 p).receive_line f
    rw [if_pos (by exact addressed), if_pos (by exact room)] at line
    refine ⟨_, run', ?_, ?_, ?_, rfl, ?_, ?_⟩ <;> simp only <;> rw [line] <;> rfl

end Sys2Proof.Machine
end

section
/-! PROOF. A lost attempt: the bytes before it, its count, and the sixteenth (R158, R168 to R170). -/

namespace Sys2Proof.Machine

namespace State
variable {s t : State}

/-! ### What the assembler leaves -/

/-- Nothing of the line but the assembler's own has changed, no latch or counter of an attempt, and
neither the station state, the clock nor the address. -/
structure assembledTo (s t : State) : Prop where
  line : t.line = { s.line with
    assembly := t.line.assembly, pair := t.line.pair, latches := t.line.latches
    counters := t.line.counters }
  crowded : t.line.latches.crowded = s.line.latches.crowded
  framing : t.line.latches.framing = s.line.latches.framing
  framings : t.line.counters.framing = s.line.counters.framing
  lost : t.line.counters.lostAttempts = s.line.counters.lostAttempts
  others : t.member.station = s.member.station ∧ t.member.joinWindow = s.member.joinWindow ∧
    t.now = s.now ∧ t.address = s.address

theorem assembledTo.trans {u : State} (h : s.assembledTo t) (k : t.assembledTo u) : s.assembledTo u where
  line := by rw [k.line, h.line]
  crowded := k.crowded.trans h.crowded
  framing := k.framing.trans h.framing
  framings := k.framings.trans h.framings
  lost := k.lost.trans h.lost
  others := by
    obtain ⟨h1, h2, h3, h4⟩ := h.others
    obtain ⟨k1, k2, k3, k4⟩ := k.others
    exact ⟨k1.trans h1, k2.trans h2, k3.trans h3, k4.trans h4⟩

theorem assembledTo_onAssembly (s : State) (A : List Byte) :
    s.assembledTo (s.onLine fun l => { l with assembly := A }) :=
  ⟨rfl, rfl, rfl, rfl, rfl, rfl, rfl, rfl, rfl⟩

/-- The assembler's bytes make no difference. -/
theorem assembledTo.hearing (h : s.assembledTo t) (A B : List Byte) (k q : Nat) :
    (s.hearing A k q).assembledTo (t.hearing B k q) where
  line := by
    show { t.line with assembly := B, echoed := k, sequence := q, idle := false, wait := none, space := false } = _
    rw [h.line]
    rfl
  crowded := h.crowded
  framing := h.framing
  framings := h.framings
  lost := h.lost
  others := h.others

theorem receive_assembledTo (s : State) (f : Frame) : s.assembledTo (s.receive f) := by
  have line := s.receive_line f
  obtain ⟨m, l, frame⟩ := s.receive_frame f
  have others : (s.receive f).member.station = s.member.station ∧
      (s.receive f).member.joinWindow = s.member.joinWindow ∧
      (s.receive f).now = s.now ∧ (s.receive f).address = s.address := by
    rw [s.receive_member f, frame]
    exact ⟨rfl, rfl, rfl, rfl⟩
  refine ⟨?_, ?_, ?_, ?_, ?_, others⟩ <;> rw [line] <;> split_ifs <;> rfl

theorem judged_assembledTo (s : State) (bs : List Byte) : s.assembledTo (s.judged bs) := by
  unfold judged
  split
  · exact s.receive_assembledTo _
  · exact ⟨rfl, rfl, rfl, rfl, rfl, rfl, rfl, rfl, rfl⟩

theorem judgeAssembly_assembledTo (s : State) (bs : List Byte) : s.assembledTo (s.judgeAssembly bs) := by
  unfold judgeAssembly
  split
  · exact ⟨rfl, rfl, rfl, rfl, rfl, rfl, rfl, rfl, rfl⟩
  · split
    · exact (s.assembledTo_onAssembly []).trans (judged_assembledTo _ bs)
    · exact s.assembledTo_onAssembly bs

theorem assemble_assembledTo (s : State) (b : LineByte) : s.assembledTo (s.assemble b) := by
  unfold assemble
  split
  · split
    · exact s.assembledTo_onAssembly _
    · exact s.assembledTo_onAssembly s.line.assembly
  · exact s.judgeAssembly_assembledTo _

/-! ### The echo up to the byte that differs (R168, R169) -/

/-- The bytes that came back as sent, and one that did not. -/
theorem hears_wrong {e : TxEntry} {b : LineByte} {sent : Byte} {rest : List Byte} (differs : b.value ≠ sent)
    (close : b.idleBits ≤ 20) : ∀ (run : List LineByte) {s : State}, s.line.sending = some e →
    (∀ c ∈ run, c.idleBits ≤ 20) →
    (s.frameOf e).bytes.drop s.line.echoed = run.map LineByte.value ++ sent :: rest →
    ∃ u : State, (run ++ [b]).foldl hearByte s = (u.loseAttempt e).assemble b ∧
      (s.hearing [] (s.line.echoed + run.length) s.line.sequence).assembledTo u := by
  intro run
  induction run with
  | nil =>
    intro s sending _ bytes
    refine ⟨_, (hearByte_sending sending (.inl close)).trans (if_neg ?_), assembledTo_onAssembly _ _⟩
    rw [← List.head?_drop, bytes]
    exact fun h => differs (Option.some.inj h).symm
  | cons c run ih =>
    intro s sending near bytes
    have more : s.line.echoed + 1 < (s.frameOf e).bytes.length := by
      have long := congrArg List.length bytes
      simp only [List.length_drop, List.map_cons, List.cons_append, List.length_cons,
        List.length_append] at long
      omega
    have first : (s.frameOf e).bytes[s.line.echoed]? = some c.value := by
      rw [← List.head?_drop, bytes]
      rfl
    have heard := hearByte_echo sending (.inl (near c List.mem_cons_self)) first more
    set v := s.hearing s.line.assembly (s.line.echoed + 1) s.line.sequence with hv
    have took := v.assemble_assembledTo c
    have line := took.line
    have sequence : (v.assemble c).line.sequence = s.line.sequence := by rw [line]; rfl
    have echoed : (v.assemble c).line.echoed = s.line.echoed + 1 := by rw [line]; rfl
    have own : (v.assemble c).frameOf e = s.frameOf e := by
      unfold frameOf
      rw [took.others.2.2.2]
      rfl
    obtain ⟨u, run', same⟩ := ih (s := v.assemble c)
      (by unfold Line.sending; rw [line]; exact sending) (fun d hd => near d (List.mem_cons_of_mem c hd))
      (by rw [own, echoed, ← List.tail_drop, bytes]; rfl)
    refine ⟨u, ?_, ?_⟩
    · rw [List.cons_append, List.foldl_cons, heard, run']
    · rw [echoed, sequence, Nat.add_assoc, Nat.add_comm 1] at same
      exact (took.hearing [] [] (s.line.echoed + (run.length + 1)) s.line.sequence).trans same

/-! ### The loss (R169, R170) -/

/-- Nothing in flight is removed, so the line goes on as it was. -/
theorem moveTo_standing (x : Station) (landed : ∀ y ∈ s.line.queue, y.inFlight = false) :
    (s.moveTo x).line.idle = s.line.idle ∧ (s.moveTo x).line.echoed = s.line.echoed := by
  set m := s.onMember fun m => { m with
    station := x, joinWindow := .stopped, rollCallWait := .stopped, duplicateHold := .stopped }
  show m.purgeQueue.line.idle = s.line.idle ∧ m.purgeQueue.line.echoed = s.line.echoed
  unfold purgeQueue
  extract_lets gone stopped s1 s2
  have told : s2.sameBut [.responder, .restarts] (gone.foldl (fun t e => t.resultLeft e.use .removed) s2) :=
    sameBut_foldl (fun u e => u.resultLeft_changes _ _) _ _
  obtain ⟨-, idle, -, -, -, echoed, -⟩ := wire_same (told.of_not_mem (i := .wire) (by decide))
  have goes : stopped = false := by
    refine List.any_eq_false.mpr fun y hy => ?_
    rw [landed y (List.mem_filter.mp hy).1]
    decide
  have still : s1.line.idle = s.line.idle ∧ s1.line.echoed = s.line.echoed := by
    unfold s1
    rw [goes]
    exact ⟨Bool.or_false _, rfl⟩
  rw [idle, echoed]
  unfold s2
  rw [goes]
  split
  · exact still
  · exact still

/-- A station with nothing in flight falls back to LISTEN; the line's latches and counters stay. -/
theorem enterStation_listen (landed : ∀ y ∈ s.line.queue, y.inFlight = false) :
    (s.enterStation .listen).line.idle = s.line.idle ∧
    (s.enterStation .listen).line.echoed = s.line.echoed ∧
    (s.enterStation .listen).line.queue = [] ∧
    (s.enterStation .listen).member.station = .listen ∧
    (s.enterStation .listen).member.joinWindow = .running (s.now + 5000) := by
  obtain ⟨idle, echoed⟩ := moveTo_standing .listen landed
  set v := (s.moveTo .listen).andIf (s.member.station == .online) leftOnline with hv
  have left : (s.moveTo .listen).sameBut [.stationTimers, .announcer, .plantFlight, .sequencer, .shareFlight] v :=
    sameBut_andIf (fun u => u.leftOnline_changes.mono (by decide)) _ _
  obtain ⟨queue', idle', -, -, -, echoed', -⟩ := wire_same (left.of_not_mem (i := .wire) (by decide))
  have station : v.member.station = .listen := by
    rw [show v.member.station = _ from left.of_not_mem (i := .station) (by decide), moveTo_member]
  have now : v.now = s.now :=
    (left.of_not_mem (i := .clock) (by decide)).trans
      ((s.moveTo_changes .listen).of_not_mem (i := .clock) (by decide))
  rw [enterStation_eq, ← hv, entered_listen station]
  refine ⟨idle'.trans idle, echoed'.trans echoed, queue'.trans (s.moveTo_silent .listen fun _ => rfl).1,
    station, ?_⟩
  show Timer.running (v.now + 5000) = _
  rw [now]

/-- What the loss of e leaves of the line, the entry e standing between before and after. -/
structure lostTo (s t : State) (before after : List TxEntry) (e : TxEntry) : Prop where
  echoed : t.line.echoed = 0
  idle : t.line.idle = s.line.idle
  framing : t.line.latches.framing = s.line.latches.framing
  framings : t.line.counters.framing = s.line.counters.framing
  lost : t.line.counters.lostAttempts = min 255 (s.line.counters.lostAttempts + 1)
  landed : t.line.sending = none
  few : e.lost < 15 → t.line.queue = before ++ e.afterLoss :: after ∧
    t.line.latches.crowded = s.line.latches.crowded ∧ t.member.station = s.member.station
  many : 15 ≤ e.lost → t.line.latches.crowded = true ∧
    (e.kind ≠ .rollCall → t.line.queue = before ++ after) ∧
    (e.kind = .rollCall → t.member.station = .listen ∧ t.line.queue = [] ∧
      t.member.joinWindow = .running (s.now + 5000))

/-- The state after the sixteenth lost attempt, before the owner is told. -/
def crowdedOut (s : State) (rest : List TxEntry) : State :=
  s.onLine fun l => { l with
    echoed := 0, queue := rest, counters := s.oneLost, latches := { l.latches with crowded := true } }

theorem loseAttempt_many {before after : List TxEntry} {e : TxEntry}
    (split : s.line.queue = before ++ e :: after) (flies : e.inFlight = true)
    (others : ∀ y ∈ before ++ after, y.inFlight = false) (many : 15 ≤ e.lost) :
    s.loseAttempt e = (s.crowdedOut (before ++ after)).crowdedTo e := by
  unfold loseAttempt
  rw [if_pos (by omega)]
  refine congrArg (fun u : State => u.crowdedTo e) ?_
  rw [← landed_of_split flies others, ← split]
  rfl

/-- Only the owner of a ROLL CALL moves on the line's side. -/
theorem crowdedTo_line {e : TxEntry} (other : e.kind ≠ .rollCall) : (s.crowdedTo e).line = s.line := by
  unfold crowdedTo
  split
  · rfl
  · rfl
  · next h => exact absurd h other
  · rfl
  · rfl
  · obtain ⟨n, r, h⟩ := s.resultLeft_frame e.use .crowded
    rw [h]

theorem loseAttempt_lostTo {before after : List TxEntry} {e : TxEntry}
    (split : s.line.queue = before ++ e :: after) (flies : e.inFlight = true)
    (others : ∀ y ∈ before ++ after, y.inFlight = false) : s.lostTo (s.loseAttempt e) before after e := by
  by_cases many : 15 ≤ e.lost
  · rw [loseAttempt_many split flies others many]
    set v := s.crowdedOut (before ++ after) with hv
    by_cases rollCall : e.kind = .rollCall
    · have told : v.crowdedTo e = v.enterStation .listen := by
        unfold crowdedTo
        rw [rollCall]
      obtain ⟨idle, echoed, queue, station, join⟩ := enterStation_listen (s := v) others
      have changes := v.enterStation_changes .listen
      have counters : _ = v.line.counters := changes.of_not_mem (i := .counters) (by decide)
      have latches : _ = v.line.latches := changes.of_not_mem (i := .latches) (by decide)
      rw [told]
      exact {
        echoed := echoed, idle := idle
        framing := (congrArg LineLatches.framing latches).trans rfl
        framings := (congrArg LineCounters.framing counters).trans rfl
        lost := (congrArg LineCounters.lostAttempts counters).trans rfl
        landed := Line.sending_eq_none.mpr (by rw [queue]; simp)
        few := fun h => absurd many (by omega)
        many := fun _ => ⟨(congrArg LineLatches.crowded latches).trans rfl, fun h => absurd rollCall h,
          fun _ => ⟨station, queue, join⟩⟩ }
    · have line := crowdedTo_line (s := v) rollCall
      exact {
        echoed := by rw [line]; rfl
        idle := by rw [line]; rfl
        framing := by rw [line]; rfl
        framings := by rw [line]; rfl
        lost := by rw [line]; rfl
        landed := by rw [line]; exact Line.sending_eq_none.mpr others
        few := fun h => absurd many (by omega)
        many := fun _ => ⟨by rw [line]; rfl, fun _ => by rw [line]; rfl, fun h => absurd h rollCall⟩ }
  · rw [loseAttempt_few split flies others (by omega)]
    have landed : ∀ y ∈ before ++ e.afterLoss :: after, y.inFlight = false := fun y hy => by
      rcases List.mem_append.mp hy with h | h
      · exact others y (List.mem_append_left _ h)
      · rcases List.mem_cons.mp h with rfl | h
        · rfl
        · exact others y (List.mem_append_right _ h)
    exact ⟨rfl, rfl, rfl, rfl, rfl, Line.sending_eq_none.mpr landed, fun _ => ⟨rfl, rfl, rfl⟩,
      fun h => absurd h many⟩

/-- The assembler's work around a loss leaves it as it is. -/
theorem lostTo.assembled {u v : State} {before after : List TxEntry} {e : TxEntry} {k q : Nat}
    (pre : (s.hearing [] k q).assembledTo u) (h : u.lostTo t before after e) (post : t.assembledTo v) :
    (s.hearing [] k q).lostTo v before after e := by
  have line := post.line
  obtain ⟨station, join, now, -⟩ := post.others
  obtain ⟨station', -, now', -⟩ := pre.others
  exact {
    echoed := by rw [line]; exact h.echoed
    idle := by rw [line]; exact h.idle.trans (by rw [pre.line])
    framing := post.framing.trans (h.framing.trans pre.framing)
    framings := post.framings.trans (h.framings.trans pre.framings)
    lost := post.lost.trans (h.lost.trans (by rw [pre.lost]))
    landed := by unfold Line.sending; rw [line]; exact h.landed
    few := fun n => by
      obtain ⟨queue, crowded, still⟩ := h.few n
      exact ⟨by rw [line]; exact queue, post.crowded.trans (crowded.trans pre.crowded),
        station.trans (still.trans station')⟩
    many := fun n => by
      obtain ⟨crowded, other, rollCall⟩ := h.many n
      refine ⟨post.crowded.trans crowded, fun k => by rw [line]; exact other k, fun k => ?_⟩
      obtain ⟨listens, queue, window⟩ := rollCall k
      exact ⟨station.trans listens, by rw [line]; exact queue, join.trans (window.trans (by rw [now']))⟩ }

/-! ### LOST_ATTEMPT (R158, R169) -/

/-- An own byte with its place behind the k bytes echoed before. -/
def echoByte (k : Nat) (p : Byte × Nat) : LineByte :=
  { idleBits := if k + p.2 == 0 then 20 else 0, value := p.1 }

theorem echoByte_near (k : Nat) (p : Byte × Nat) : (echoByte k p).idleBits ≤ 20 := by
  unfold echoByte
  dsimp only
  split <;> omega

/-- The bytes that came back as sent, each right behind the one before, and the wrong one. -/
theorem echoRun_eq (s : State) (e : TxEntry) (matched : Nat) (w : Byte) : ∃ (run : List LineByte)
    (b : LineByte), s.echoRun e matched w = run ++ [b] ∧ b.value = w ∧ b.idleBits ≤ 20 ∧
      (∀ c ∈ run, c.idleBits ≤ 20) ∧
      run.map LineByte.value = ((s.frameOf e).bytes.drop s.line.echoed).take matched := by
  set own := ((s.frameOf e).bytes.drop s.line.echoed).take matched
  have runs : s.echoRun e matched w = (own ++ [w]).zipIdx.map (echoByte s.line.echoed) := rfl
  refine ⟨own.zipIdx.map (echoByte s.line.echoed), echoByte s.line.echoed (w, own.length), ?_, rfl,
    echoByte_near _ _, fun c hc => ?_, ?_⟩
  · rw [runs, List.zipIdx_append, List.map_append]
    simp
  · obtain ⟨p, -, rfl⟩ := List.mem_map.mp hc
    exact echoByte_near _ p
  · rw [List.map_map]
    exact List.zipIdx_map_fst 0 own

/-- Where the attempt is lost from: the line busy with the byte that differed. -/
structure losing (s v : State) (wrong : Option Byte) : Prop where
  idle : v.line.idle = false
  crowded : v.line.latches.crowded = s.line.latches.crowded
  lost : v.line.counters.lostAttempts = s.line.counters.lostAttempts
  station : v.member.station = s.member.station
  now : v.now = s.now
  framing : wrong = none → v.line.latches.framing = true ∧
    v.line.counters.framing = min 255 (s.line.counters.framing + 1)

variable {before after : List TxEntry} {e : TxEntry}

/-- A byte of the echo that came back wrong loses the attempt. -/
theorem echoWrong_lost (split : s.line.queue = before ++ e :: after) (flies : e.inFlight = true)
    (others : ∀ y ∈ before ++ after, y.inFlight = false) {matched : Nat} {w sent : Byte}
    (there : (s.frameOf e).bytes[s.line.echoed + matched]? = some sent) (differs : w ≠ sent) :
    ∃ v, s.losing v (some w) ∧
      v.lostTo ((s.echoRun e matched w).foldl hearByte s) before after e := by
  obtain ⟨run, b, runs, value, near, close, values⟩ := s.echoRun_eq e matched w
  obtain ⟨place, at'⟩ := List.getElem?_eq_some_iff.mp there
  have bytes : (s.frameOf e).bytes.drop s.line.echoed = run.map LineByte.value ++
      sent :: (s.frameOf e).bytes.drop (s.line.echoed + matched + 1) := by
    rw [values, ← at', ← List.drop_eq_getElem_cons place, ← List.drop_drop, List.take_append_drop]
  obtain ⟨u, heard, pre⟩ := hears_wrong (by rw [value]; exact differs) near run
    (Line.sending_of_split split flies others) close bytes
  have queue : u.line.queue = before ++ e :: after := by
    rw [pre.line]
    exact split
  rw [runs, heard]
  exact ⟨s.hearing [] (s.line.echoed + run.length) s.line.sequence,
    ⟨rfl, rfl, rfl, rfl, rfl, fun h => absurd h (Option.some_ne_none w)⟩,
    lostTo.assembled pre (loseAttempt_lostTo queue flies others) (assemble_assembledTo _ b)⟩

/-- A byte of the echo with a framing error loses the attempt. -/
theorem echoBad_lost (split : s.line.queue = before ++ e :: after) (flies : e.inFlight = true)
    (others : ∀ y ∈ before ++ after, y.inFlight = false) :
    ∃ v, s.losing v none ∧ v.lostTo (s.badByte 0) before after e := by
  have sending := Line.sending_of_split split flies others
  have spoils : s.spoiled 0 = ((((s.hearing s.line.assembly s.line.echoed s.line.sequence).onLatches
      fun x => { x with framing := true }).onCounters fun c =>
        { c with framing := saturate c.framing 255 }).onLine fun l => { l with assembly := [] }) := by
    unfold spoiled
    rw [byteBegins_sending (by rw [sending]; rfl) (.inl (by omega))]
  have queue : (s.spoiled 0).line.queue = before ++ e :: after := by
    rw [spoils]
    exact split
  rw [badByte_flying (Line.sending_of_split queue flies others)]
  refine ⟨s.spoiled 0, ?_, loseAttempt_lostTo queue flies others⟩
  rw [spoils]
  exact ⟨rfl, rfl, rfl, rfl, rfl, fun _ => ⟨rfl, rfl⟩⟩

/-- After the loss the line is idle, or another device sends on. -/
theorem lost_ended (none : s.line.sending = none) (busy : s.line.idle = false) (goesOn : Bool) :
    ∃ p w q, s.andIf (!goesOn) lineIdle =
      { s with line := { s.line with idle := !goesOn, space := p, wait := w, sequence := q } } := by
  cases goesOn
  · obtain ⟨w, q, ended, -⟩ := lineIdle_ended none busy
    exact ⟨false, w, q, ended⟩
  · refine ⟨s.line.space, s.line.wait, s.line.sequence, ?_⟩
    show s = { s with line := { s.line with idle := false } }
    rw [← busy]

/-- The echo's loss, whatever byte it was. -/
theorem echoDiffers_lost (split : s.line.queue = before ++ e :: after) (flies : e.inFlight = true)
    (others : ∀ y ∈ before ++ after, y.inFlight = false) {matched : Nat} {wrong : Option Byte} {sent : Byte}
    (there : (s.frameOf e).bytes[s.line.echoed + matched]? = some sent) (differs : wrong ≠ some sent)
    (goesOn : Bool) : ∃ v u, s.losing v wrong ∧ v.lostTo u before after e ∧
      s.echoDiffers e matched wrong goesOn = u.andIf (!goesOn) lineIdle := by
  unfold echoDiffers
  rw [there]
  simp only [if_neg (show ¬(wrong == some sent) = true by simpa using differs)]
  cases wrong with
  | none =>
    obtain ⟨v, losing, lost⟩ := echoBad_lost split flies others
    exact ⟨v, _, losing, lost, rfl⟩
  | some w =>
    obtain ⟨v, losing, lost⟩ := echoWrong_lost split flies others there fun h => differs (congrArg some h)
    exact ⟨v, _, losing, lost, rfl⟩

end State

open State in
/-- Settles O51: an echo as sent does nothing, any other loses the attempt, the sixteenth for good. -/
theorem lostAttemptIsCountedToSixteen : Obligations.LostAttemptIsCountedToSixteen := by
  intro s before after e matched wrong goesOn held split flies others
  have sending := Line.sending_of_split split flies others
  have run : exec (.lostAttempt matched wrong goesOn) s = .next (s.echoDiffers e matched wrong goesOn) := by
    refine congrArg Host.Outcome.next ((s.take_running _ held).trans ?_)
    rw [sending]
  refine ⟨fun beyond => ?_, fun sent there => ⟨fun same => ?_, fun bad still mark => ?_, fun differs => ?_⟩⟩
  · rw [run]
    unfold echoDiffers
    rw [List.getElem?_eq_none beyond]
  · rw [run]
    unfold echoDiffers
    rw [there]
    exact congrArg Host.Outcome.next (if_pos (by simpa using same))
  · subst bad still
    have begins : s.line.canBegin 0 = true := by simp [Line.canBegin, mark]
    have error : exec (.framingError 0 false) s = .next (s.framingError 0 false) :=
      congrArg Host.Outcome.next ((s.take_running _ held).trans (if_pos begins))
    rw [run, error]
    unfold echoDiffers
    rw [there]
    rfl
  · obtain ⟨v, u, losing, lost, loses⟩ := echoDiffers_lost split flies others there differs goesOn
    obtain ⟨p, w, q, ended⟩ := lost_ended lost.landed (lost.idle.trans losing.idle) goesOn
    have changes := exec_changes rfl run
    rw [loses, ended] at run changes
    refine ⟨_, run, lost.echoed, rfl, fun bad => ?_, ?_, fun few => ?_, fun many => ?_,
      changes.of_not_mem (i := .drive) (by decide), sensing_of_sameBut changes (by decide), ?_⟩
    · obtain ⟨framing, framings⟩ := losing.framing bad
      exact ⟨lost.framing.trans framing, lost.framings.trans framings⟩
    · rw [← losing.lost]
      exact lost.lost
    · obtain ⟨queue, crowded, station⟩ := lost.few few
      exact ⟨queue, crowded.trans losing.crowded, station.trans losing.station⟩
    · obtain ⟨crowded, other, rollCall⟩ := lost.many many
      refine ⟨crowded, other, fun kind _ => ?_⟩
      rw [← losing.now]
      exact rollCall kind
    · exact changes.of_not_mem (i := .setpoints) (by decide)

end Sys2Proof.Machine
end

section
/-! PROOF. The sequencer's timers (R116 to R118, R120, R145, R147, R153). -/

namespace Sys2Proof.Machine

namespace State

/-- The sequencer's state at an expiry, its reckoning not yet triggered. -/
def expiredTo (s : State) (d : Nat) (arb : Arbitration) (prot : Protection) : State :=
  { s with now := max s.now d, plant := { s.plant with arb, prot } }

theorem expiredTo_told {s : State} (plant : s.role = .plant) (d : Nat) (arb : Arbitration)
    (prot : Protection) : toldPlant s (s.expiredTo d arb prot).plantTrigger :=
  toldPlant_of_plant_eq rfl rfl rfl ((s.expiredTo d arb prot).plantTrigger_told plant)

theorem expiredTo_frame (s : State) (d : Nat) (arb : Arbitration) (prot : Protection) :
    (s.expiredTo d arb prot).plantTrigger = { s with
      now := max s.now d
      plant := { s.plant with
        arb, prot
        flight := (s.expiredTo d arb prot).plantTrigger.plant.flight
        mark := (s.expiredTo d arb prot).plantTrigger.plant.mark } } := by
  obtain ⟨f, m, h⟩ := (s.expiredTo d arb prot).plantTrigger_frame
  rw [h]
  rfl

end State

open State in
/-- Settles O42: each expiry writes its timer and triggers a reckoning. -/
theorem sequencerTimersReportExpired : Obligations.SequencerTimersReportExpired := by
  intro s c d arb prot held plant cases'
  refine ⟨(s.expiredTo d arb prot).plantTrigger, ?_, s.expiredTo_frame d arb prot,
    expiredTo_told plant d arb prot⟩
  have running (act : State → State) : s.takeExpiry (.running d) act = act (s.reach d) :=
    s.takeExpiry_running d act held
  have own (act : State → State) : s.andIf (s.role == .plant) act = act s := by
    rw [plant]
    rfl
  rcases cases' with ⟨rfl, timer, rfl, rfl⟩ | ⟨rfl, timer, rfl, rfl⟩ | ⟨rfl, timer, rfl, rfl⟩ |
    ⟨rfl, timer, off, rfl, rfl⟩ | ⟨rfl, timer, rfl, rfl⟩ | ⟨rfl, timer, rfl, rfl⟩ | ⟨rfl, timer, rfl, rfl⟩
  all_goals show Host.Outcome.next _ = _
  · rw [timer, running]
    rfl
  · rw [own, timer, running]
    rfl
  · rw [timer, running]
    rfl
  · have ended : (if s.plant.arb.minOff.isRunning then Timer.expired else s.plant.arb.minOff) = .expired := by
      cases h : s.plant.arb.minOff
      · exact absurd h off
      · rfl
      · rfl
    have expires : (s.reach d).onArb (fun a => { a with
        pause := .stopped, minOff := if a.minOff.isRunning then .expired else a.minOff }) =
        s.expiredTo d { s.plant.arb with
          pause := .stopped
          minOff := if s.plant.arb.minOff.isRunning then .expired else s.plant.arb.minOff } s.plant.prot := rfl
    rw [ended] at expires
    rw [timer, running, expires]
  · rw [timer, running]
    rfl
  · rw [timer, running]
    rfl
  · rw [timer, running]
    rfl

/-! ### The announcement timers (R55, R57, R138, R140) -/

namespace State
variable {s : State}

theorem onAnnouncer_announcer (s : State) (f : Announcer → Announcer) :
    (s.onAnnouncer f).announcer = f s.announcer := by
  unfold onAnnouncer announcer
  cases hr : s.role <;> simp [hr]

/-- The announcer's work, with the announcer left out. -/
theorem announces_keeps {t : State} (h : s.announces t) : t = { s with
    line := t.line, demand := t.demand, plant := t.plant } := by
  obtain ⟨l, a, b, rfl⟩ := h
  rfl

theorem announcer_of_line (l : Line) : ({ s with line := l } : State).announcer = s.announcer := rfl

theorem ownKind_periodic (r : Role) : (ownKind r).periodic = true := by cases r <;> rfl

theorem ownKind_online (r : Role) : Station.online.allows (ownKind r) = true := by cases r <;> rfl

theorem announcing_of_free (free : ∀ e ∈ s.line.queue, e.kind.periodic = false) : s.announcing = false := by
  refine List.any_eq_false.mpr fun e he h => ?_
  obtain ⟨own, -⟩ := Bool.and_eq_true _ _ |>.mp h
  have periodic := ownKind_periodic s.role
  rw [← beq_iff_eq.mp own, free e he] at periodic
  exact Bool.noConfusion periodic

/-- With no periodic frame held, the own announcement is queued in ONLINE. -/
theorem placeAnnouncement_queue (online : s.member.station = .online)
    (free : ∀ e ∈ s.line.queue, e.kind.periodic = false) :
    s.placeAnnouncement.line.queue = s.line.queue ++ [unsentEntry (ownKind s.role) 0] := by
  unfold placeAnnouncement placePeriodic
  rw [announcing_of_free free, online, ownKind_online, if_neg (by decide), onAnnouncer_line,
    if_neg (by decide), if_neg (by simpa using free)]
  exact s.placeEntry_queue _

theorem placeAnnouncement_marked (flies : s.announcing = true) : s.placeAnnouncement = s.markWaiting :=
  if_pos flies

theorem placeAnnouncement_announcer (s : State) : s.placeAnnouncement.announcer =
    if s.announcing = true then { s.announcer with waiting := true }
    else { s.announcer with period := s.timer (periodMs s.role) } := by
  unfold placeAnnouncement
  split_ifs
  · exact s.onAnnouncer_announcer _
  · obtain ⟨l, h⟩ := s.placePeriodic_frame (ownKind s.role) 0
    rw [h]
    exact onAnnouncer_announcer _ _

/-- The announcement timers of a role. -/
theorem ownTimers (s : State) (c : Instr)
    (h : (c = .announcePeriodExpiry ∧ s.role = .zone) ∨ (c = .statusPeriodExpiry ∧ s.role = .plant)) :
    exec c s = .next (s.takeExpiry s.announcer.period periodExpired) := by
  unfold announcer
  rcases h with ⟨rfl, role⟩ | ⟨rfl, role⟩
  · rw [role]
    show Host.Outcome.next (s.andIf (s.role == .zone) _) = _
    rw [role]
    rfl
  · rw [role]
    show Host.Outcome.next (s.andIf (s.role == .plant) _) = _
    rw [role]
    rfl

theorem ownSpacing (s : State) (c : Instr)
    (h : (c = .spacingExpiry ∧ s.role = .zone) ∨ (c = .statusSpacingExpiry ∧ s.role = .plant)) :
    exec c s = .next (s.takeExpiry s.announcer.spacing spacingExpired) := by
  unfold announcer
  rcases h with ⟨rfl, role⟩ | ⟨rfl, role⟩
  · rw [role]
    show Host.Outcome.next (s.andIf (s.role == .zone) _) = _
    rw [role]
    rfl
  · rw [role]
    show Host.Outcome.next (s.andIf (s.role == .plant) _) = _
    rw [role]
    rfl

end State

open State in
/-- Settles O32: a period's end places the announcement or marks it, a spacing's end places a marked one. -/
theorem announcementTimersPlace : Obligations.AnnouncementTimersPlace := by
  refine ⟨fun s c d held online own timer _ => ?_, fun s c d held online own timer free => ?_⟩
  · have run := s.ownTimers c own
    rw [timer, s.takeExpiry_running d _ held] at run
    set u := s.reach d
    set v := u.placeAnnouncement with hv
    have told : v.announcer = _ := u.placeAnnouncement_announcer
    have ends : u.periodExpired.announcer = { v.announcer with period := u.timer (periodMs u.role) } :=
      v.onAnnouncer_announcer _
    have line : u.periodExpired.line = v.line := v.onAnnouncer_line _
    refine ⟨_, run, by rw [ends]; rfl, fun free => ⟨?_, ?_⟩, fun ⟨e, he, kind, flies⟩ => ?_, ?_, ?_, ?_⟩
    · rw [line]
      exact placeAnnouncement_queue (s := u) online free
    · rw [ends, told, announcing_of_free (s := u) free]
      rfl
    · have flying : u.announcing = true := List.any_eq_true.mpr ⟨e, he, by rw [flies, kind]; simp [u, reach]⟩
      refine ⟨?_, by rw [ends, told, if_pos flying]⟩
      rw [line, hv, placeAnnouncement_marked flying]
      exact u.onAnnouncer_line _
    · rw [ends, told]
      split_ifs <;> rfl
    · rw [ends, told]
      split_ifs <;> rfl
    · exact announces_keeps (announces_trans u.placeAnnouncement_frame (v.onAnnouncer_frame _))
  · have run := s.ownSpacing c own
    rw [timer, s.takeExpiry_running d _ held] at run
    set u := s.reach d
    set v := u.onAnnouncer fun a => { a with spacing := .stopped } with hv
    have stopped : v.announcer = { u.announcer with spacing := .stopped } := u.onAnnouncer_announcer _
    have queue : v.line = s.line := u.onAnnouncer_line _
    have changes := u.onAnnouncer_changes fun a => { a with spacing := .stopped }
    obtain ⟨-, role, -⟩ := changes.of_not_mem (i := .fixed) (by decide)
    have station : v.member.station = _ := changes.of_not_mem (i := .station) (by decide)
    have now : v.now = _ := changes.of_not_mem (i := .clock) (by decide)
    have free' : ∀ e ∈ v.line.queue, e.kind.periodic = false := by rw [queue]; exact free
    have marked : v.announcer.waiting = s.announcer.waiting := by rw [stopped]; rfl
    have ends : u.spacingExpired = v.andIf v.announcer.waiting placeAnnouncement := rfl
    have told : v.placeAnnouncement.announcer = { v.announcer with period := v.timer (periodMs v.role) } := by
      rw [placeAnnouncement_announcer, announcing_of_free free']
      rfl
    refine ⟨_, run, ?_, fun waits => ⟨?_, ?_⟩, fun waits => ?_, ?_, ?_⟩
    · rw [ends]
      rcases v.andIf_cases v.announcer.waiting placeAnnouncement with ⟨-, h⟩ | ⟨-, h⟩ <;> rw [h]
      · rw [told, stopped]
      · rw [stopped]
    · rw [ends, marked, waits, andIf_true, placeAnnouncement_queue (station.trans online) free', queue, role]
      rfl
    · rw [ends, marked, waits, andIf_true, told]
      show Timer.running (v.now + periodMs v.role) = _
      rw [now, role]
      rfl
    · rw [ends, marked, waits, andIf_false, queue, stopped]
      exact ⟨rfl, rfl⟩
    · rw [ends]
      rcases v.andIf_cases v.announcer.waiting placeAnnouncement with ⟨-, h⟩ | ⟨-, h⟩ <;> rw [h]
      · rw [told]
        exact marked
      · exact marked
    · rw [ends]
      exact announces_keeps (announces_trans (u.onAnnouncer_frame _)
        (v.andIf_announces v.announcer.waiting placeAnnouncement v.placeAnnouncement_frame))

end Sys2Proof.Machine
end

section
/-! PROOF. What a demand recompute and an evaluation leave (R43 to R52), and the setpoint frame (R36 to R41). -/

namespace Sys2Proof.Machine

/-! ### The demands (R43, R44, R46) -/

theorem clampInt_toNat_cast (x : Int) : ((clampInt x 0 100).toNat : Int) = max 0 (min 100 x) := by
  unfold clampInt
  omega

/-- A figure that a channel which is not USABLE does not give. -/
theorem usable_cast (usable : Bool) (n : Nat) (x : Int) (h : (n : Int) = x) :
    ((if usable then n else 0 : Nat) : Int) = if usable then x else 0 := by
  cases usable
  · rfl
  · exact h

/-- The items that the demand unit's figures are read from. -/
abbrev figureItems : List Item := [.fixed, .channels, .contacts, .setpoints, .demand]

namespace State
variable {s t : State} {a : List Item}

theorem windowOpen_of_sameBut (h : s.sameBut a t) (ha : ∀ i ∈ figureItems, i ∉ a) :
    t.windowOpen = s.windowOpen := by
  obtain ⟨-, role, -⟩ := h.of_not_mem (ha .fixed (by decide))
  have contact : _ = _ := contact_of_sameBut h (ha .contacts (by decide)) .first
  have inUse := contactInUse_of_sameBut h (ha .fixed (by decide)) .first
  unfold windowOpen
  rw [role, inUse, show t.sensing.contact1 = s.sensing.contact1 from contact]

theorem vacant_of_sameBut (h : s.sameBut a t) (ha : ∀ i ∈ figureItems, i ∉ a) : t.vacant = s.vacant := by
  obtain ⟨-, role, -⟩ := h.of_not_mem (ha .fixed (by decide))
  have contact : _ = _ := contact_of_sameBut h (ha .contacts (by decide)) .second
  have inUse := contactInUse_of_sameBut h (ha .fixed (by decide)) .second
  unfold vacant
  rw [role, inUse, show t.sensing.contact2 = s.sensing.contact2 from contact]

theorem heatEff_of_sameBut (h : s.sameBut a t) (ha : ∀ i ∈ figureItems, i ∉ a) :
    t.heatEff = s.heatEff := by
  obtain ⟨-, -, -, cfg, -⟩ := h.of_not_mem (ha .fixed (by decide))
  have setpoints : _ = _ := h.of_not_mem (ha .setpoints (by decide))
  have demand : _ = _ := h.of_not_mem (ha .demand (by decide))
  unfold heatEff setbackNow
  rw [cfg, setpoints, demand]

theorem evaluated_of_sameBut {old : WantedMode} (h : s.sameBut a t) (ha : ∀ i ∈ figureItems, i ∉ a)
    (done : evaluated old s) : evaluated old t := by
  obtain ⟨first, second⟩ := h.of_not_mem (ha .channels (by decide))
  have demand : _ = _ := h.of_not_mem (ha .demand (by decide))
  unfold evaluated at done ⊢
  rw [first, second, windowOpen_of_sameBut h ha, heatEff_of_sameBut h ha, demand]
  exact done

theorem recomputed_of_sameBut (h : s.sameBut a t) (ha : ∀ i ∈ figureItems, i ∉ a)
    (done : recomputed s) : recomputed t := by
  obtain ⟨first, second⟩ := h.of_not_mem (ha .channels (by decide))
  obtain ⟨-, -, -, cfg, -⟩ := h.of_not_mem (ha .fixed (by decide))
  have setpoints : _ = _ := h.of_not_mem (ha .setpoints (by decide))
  have demand : _ = _ := h.of_not_mem (ha .demand (by decide))
  unfold recomputed at done ⊢
  rw [first, second, vacant_of_sameBut h ha, cfg, setpoints, demand]
  exact done

/-- The state whose demands a recompute has formed. -/
def formed (s : State) : State := (s.onDemand fun d => { d with unoccupied := s.vacant }).formDemands

theorem formed_changes (s : State) : s.sameBut [.demand] s.formed :=
  (s.onDemand_changes _ (by simp)).trans (onDemand_changes _ _ (by simp))

theorem formed_recomputed (s : State) : recomputed s.formed := by
  exact ⟨rfl, usable_cast _ _ _ (clampInt_toNat_cast _), usable_cast _ _ _ (clampInt_toNat_cast _),
    usable_cast _ _ _ (clampInt_toNat_cast _)⟩

/-! ### The wanted mode (R47 to R51) -/

/-- The state whose wanted mode an evaluation has found, with D and the relief-available flag. -/
def evaluatedTo (s : State) : State :=
  s.onDemand fun d => { d with
    wanted := s.wantedNext, demand := d.figure s.wantedNext, reliefAvailable := s.reliefNow }

theorem suppressed_iff (s : State) :
    s.suppressed = true ↔ s.sensing.first.usable = false ∨ s.windowOpen = true := by
  simp [suppressed]

theorem dryEntry_iff (s : State) : s.dryEntry = true ↔ 20 ≤ s.demand.dDry ∧
    s.sensing.second.usable = true ∧ s.heatEff + 10 ≤ s.sensing.first.filtered.getD 0 := by
  simp [dryEntry, and_assoc]

theorem dryExit_iff (s : State) : s.dryExit = true ↔ s.demand.dDry = 0 ∨
    s.sensing.second.usable = false ∨ s.sensing.first.filtered.getD 0 < s.heatEff + 5 := by
  simp [dryExit, or_assoc]

theorem wantedNext_suppressed (h : s.suppressed = true) : s.wantedNext = .none := if_pos h

theorem wantedNext_of_none (h : ¬s.suppressed = true) (old : s.demand.wanted = .none) : s.wantedNext =
    if 10 ≤ s.demand.dHeat then .heat else if 10 ≤ s.demand.dCool then .cool
    else if s.dryEntry then .dry else .none := by
  unfold wantedNext
  rw [if_neg h, old]

theorem wantedNext_of_heat (h : ¬s.suppressed = true) (old : s.demand.wanted = .heat) : s.wantedNext =
    if s.demand.dHeat = 0 then .none else .heat := by
  unfold wantedNext
  rw [if_neg h, old]
  simp

theorem wantedNext_of_cool (h : ¬s.suppressed = true) (old : s.demand.wanted = .cool) : s.wantedNext =
    if 0 < s.demand.dCool then .cool else if s.dryEntry then .dry else .none := by
  unfold wantedNext
  rw [if_neg h, old]

theorem wantedNext_of_dry (h : ¬s.suppressed = true) (old : s.demand.wanted = .dry) : s.wantedNext =
    if 10 ≤ s.demand.dCool then .cool else if s.dryExit then .none else .dry := by
  unfold wantedNext
  rw [if_neg h, old]

theorem evaluatedTo_evaluated (s : State) : evaluated s.demand.wanted s.evaluatedTo := by
  refine ⟨fun h => wantedNext_suppressed ((suppressed_iff s).mpr h), fun h => ?_, rfl, rfl⟩
  have free : ¬s.suppressed = true := fun k => h ((suppressed_iff s).mp k)
  refine ⟨fun old heat => ?_, fun old heat cool => ?_, fun old heat cool humid => ?_,
    fun old heat cool humid => ?_, fun old => ?_, fun old cool => ?_, fun old cool humid => ?_,
    fun old cool humid => ?_, fun old cool => ?_, fun old cool exits => ?_,
    fun old cool dry usable warm => ?_⟩
  · exact (wantedNext_of_none free old).trans (if_pos heat)
  · exact (wantedNext_of_none free old).trans ((if_neg (Nat.not_le.mpr heat)).trans (if_pos cool))
  · exact (wantedNext_of_none free old).trans ((if_neg (Nat.not_le.mpr heat)).trans
      ((if_neg (Nat.not_le.mpr cool)).trans (if_pos ((dryEntry_iff s).mpr humid))))
  · exact (wantedNext_of_none free old).trans ((if_neg (Nat.not_le.mpr heat)).trans
      ((if_neg (Nat.not_le.mpr cool)).trans (if_neg fun k => humid ((dryEntry_iff s).mp k))))
  · exact wantedNext_of_heat free old
  · exact (wantedNext_of_cool free old).trans (if_pos cool)
  · exact (wantedNext_of_cool free old).trans ((if_neg (Nat.not_lt.mpr (Nat.le_of_eq cool))).trans
      (if_pos ((dryEntry_iff s).mpr humid)))
  · exact (wantedNext_of_cool free old).trans ((if_neg (Nat.not_lt.mpr (Nat.le_of_eq cool))).trans
      (if_neg fun k => humid ((dryEntry_iff s).mp k)))
  · exact (wantedNext_of_dry free old).trans (if_pos cool)
  · exact (wantedNext_of_dry free old).trans ((if_neg (Nat.not_le.mpr cool)).trans
      (if_pos ((dryExit_iff s).mpr exits)))
  · refine (wantedNext_of_dry free old).trans ((if_neg (Nat.not_le.mpr cool)).trans (if_neg fun k => ?_))
    rcases (dryExit_iff s).mp k with none | off | cold
    · exact dry none
    · exact Bool.noConfusion (usable.symm.trans off)
    · exact absurd warm (not_le.mpr cold)

/-- What an evaluation can prompt and trigger. -/
abbrev toldItems : List Item := [.shareFlight, .wire, .announcer]

theorem promptCause_toldItems (c : Bool) : s.sameBut toldItems (s.andIf c promptCause) :=
  sameBut_andIf (fun u => u.promptCause_changes.mono (by decide)) s c

theorem evaluate_evaluatedTo (s old : State) : s.evaluatedTo.sameBut toldItems (s.evaluate old) :=
  (sameBut_andIf (fun u => u.shareTrigger_changes.mono (by decide)) _ _).trans (promptCause_toldItems _)

theorem evaluate_evaluated (s old : State) : evaluated s.demand.wanted (s.evaluate old) :=
  evaluated_of_sameBut (s.evaluate_evaluatedTo old) (by decide) s.evaluatedTo_evaluated

theorem recompute_evaluated (s old : State) : evaluated s.demand.wanted (s.recompute old) :=
  s.formed.evaluate_evaluated old

/-- An evaluation leaves the demands it is made from. -/
theorem evaluatedTo_recomputed (h : recomputed s) : recomputed s.evaluatedTo := h

theorem recompute_recomputed (s old : State) : recomputed (s.recompute old) :=
  recomputed_of_sameBut (s.formed.evaluate_evaluatedTo old) (by decide)
    (evaluatedTo_recomputed s.formed_recomputed)

/-- The wanted mode, D or the relief-available flag differs (R51). -/
def demandMoved (d e : Demand) : Prop :=
  e.wanted ≠ d.wanted ∨ e.demand ≠ d.demand ∨ e.reliefAvailable ≠ d.reliefAvailable

/-- The share unit is told exactly of what has changed since `old`. -/
theorem evaluate_toldOfDemand {old : State} (share : s.share = old.share) :
    shareToldOfDemand old (s.evaluate old) := by
  set u := s.evaluatedTo with hu
  set c := (s.wantedNext != old.demand.wanted || u.demand.reliefAvailable != old.demand.reliefAvailable ||
    u.demand.demand != old.demand.demand) with hc
  set v := u.andIf c shareTrigger with hv
  have rest : v.sameBut [.wire, .announcer] (s.evaluate old) :=
    sameBut_andIf (fun w => w.promptCause_changes) v _
  have share' : (s.evaluate old).share = v.share := share_of_sameBut rest (by decide) (by decide)
  have demand : _ = _ := (s.evaluate_evaluatedTo old).of_not_mem (i := .demand) (by decide)
  have moved : c = true ↔ demandMoved old.demand u.demand := by
    unfold demandMoved
    simp only [hc, Bool.or_eq_true, bne_iff_ne]
    show _ ↔ s.wantedNext ≠ _ ∨ _
    tauto
  have still : demandMoved old.demand (s.evaluate old).demand ↔ demandMoved old.demand u.demand := by
    rw [demand]
    rfl
  refine ⟨fun h => ?_, fun wanted figure relief => ?_⟩
  · have told := u.shareTrigger_told
    rw [hv, moved.mpr (still.mp h), andIf_true] at share'
    exact toldShare_of_share_eq share.symm share' told
  · have off : c = false := by
      refine Bool.eq_false_iff.mpr fun k => ?_
      rcases still.mpr (moved.mp k) with h | h | h
      · exact h wanted
      · exact h figure
      · exact h relief
    rw [share', hv, off, andIf_false]
    exact share

theorem evaluate_plant (zone : s.role = .zone) (old : State) : (s.evaluate old).plant = s.plant := by
  set u := s.evaluatedTo
  have triggered (c : Bool) : (u.andIf c shareTrigger).plant = u.plant ∧
      (u.andIf c shareTrigger).role = u.role := by
    rcases u.andIf_cases c shareTrigger with ⟨-, h⟩ | ⟨-, h⟩ <;> rw [h]
    · obtain ⟨f, m, k⟩ := u.shareTrigger_frame
      rw [k]
      exact ⟨rfl, rfl⟩
    · exact ⟨rfl, rfl⟩
  have prompted (v : State) (c : Bool) (hv : v.role = .zone) : (v.andIf c promptCause).plant = v.plant := by
    rcases v.andIf_cases c promptCause with ⟨-, h⟩ | ⟨-, h⟩ <;> rw [h]
    exact promptCause_plant hv
  exact (prompted _ _ ((triggered _).2.trans zone)).trans (triggered _).1

theorem recompute_plant (zone : s.role = .zone) (old : State) : (s.recompute old).plant = s.plant :=
  evaluate_plant (s := s.formed) zone old

theorem evaluate_replies (s old : State) : (s.evaluate old).line.replies = s.line.replies := by
  have prompted (v : State) (c : Bool) : (v.andIf c promptCause).line.replies = v.line.replies := by
    rcases v.andIf_cases c promptCause with ⟨-, h⟩ | ⟨-, h⟩ <;> rw [h]
    exact v.promptCause_replies
  have triggered (c : Bool) : (s.evaluatedTo.andIf c shareTrigger).line = s.line := by
    rcases s.evaluatedTo.andIf_cases c shareTrigger with ⟨-, h⟩ | ⟨-, h⟩ <;> rw [h]
    · obtain ⟨f, m, k⟩ := s.evaluatedTo.shareTrigger_frame
      rw [k]
      rfl
    · rfl
  exact (prompted _ _).trans (congrArg Line.replies (triggered _))

theorem allows_reply (x : Station) : x.allows .setpointReply = (x == .online) := by cases x <;> rfl

theorem applySetpoint_plant (plant : s.role = .plant) (f : Frame) : s.applySetpoint f =
    if f.answered then (s.placeReply .setpointReply f.src.toNat [byte ResultCode.role.code] .plain).1
    else s := by
  unfold applySetpoint
  split
  next zone => exact Role.noConfusion (zone.symm.trans plant)
  next => rfl

/-- Only the blocks that a SETPOINT reaches in a zone differ. -/
theorem frame_of_setpointItems (h : s.sameBut
    (.pair :: [.setpoints, .demand, .shareFlight, .wire, .announcer, .latches, .counters]) t)
    (plant : t.plant = s.plant) : t = { s with
      setpoints := t.setpoints, demand := t.demand, share := t.share, line := t.line } := by
  refine eq_of_same fun i => ?_
  have other := h.of_not_mem (i := i)
  cases i
  case fixed | clock | station | stationTimers | aging | roster | waits | memberLatches | restarts
      | channels | contacts | sample | drive | responder =>
    exact other (by decide)
  all_goals simp [Item.same, plant]

end State

open State in
/-- Settles O30: the figures are stored, the demands formed from them, and the reply placed. -/
theorem setpointFrameIsWorked : Obligations.SetpointFrameIsWorked := by
  intro s f rest front takes started other
  set u := s.taken rest with hu
  have others := (u.applySetpoint_changes f)
  have judged : (u.applySetpoint f).judgeSource f = u.applySetpoint f := by
    refine judgeSource_other ?_
    obtain ⟨-, -, address, -⟩ := others.of_not_mem (i := .fixed) (by decide)
    rw [address]
    exact .inl other
  have run : exec .setpoint s = .next (u.applySetpoint f) := by
    rw [← judged]
    exact congrArg Host.Outcome.next (takeFrame_atFront front started takes _)
  refine ⟨fun zone => ?_, fun plant => ?_⟩
  · set w := s.setpointWorked f with hw
    set v := u.setpointApplied f with hv
    set stored : State := { u with setpoints := { u.setpoints with figures := w.1 } } with hs
    have recomputes : v = stored.recompute u := rfl
    have applied := applySetpoint_zone (s := u) zone f
    have answered : v.sameBut [.wire, .latches, .counters] (u.applySetpoint f) := by
      rw [applied]
      split_ifs
      · exact placeReply_changes _ _ _ _ _
      · exact v.sameBut_refl _
    have changes : s.sameBut (.pair :: [.setpoints, .demand, .shareFlight, .wire, .announcer, .latches,
        .counters]) (u.applySetpoint f) := ((s.onLine_pair_changes rest).mono (by decide)).trans
      (others.mono (by decide))
    have setpoints : _ = v.setpoints := answered.of_not_mem (i := .setpoints) (by decide)
    have demand : _ = _ := answered.of_not_mem (i := .demand) (by decide)
    have share := share_of_sameBut answered (by decide) (by decide)
    have station : v.member.station = s.member.station :=
      (recompute_changes stored u).of_not_mem (i := .station) (by decide)
    have room' : v.line.replies = s.line.replies := stored.formed.evaluate_replies u
    have told : shareToldOfDemand u v := evaluate_toldOfDemand (s := stored.formed) (old := u) rfl
    have plant : (u.applySetpoint f).plant = s.plant := by
      have kept : v.plant = s.plant := recompute_plant (s := stored) zone u
      rw [applied]
      split_ifs
      · rw [placeReply_eq]
        exact kept
      · exact kept
    refine ⟨_, w, run, rfl, setpoints.trans (u.setpointApplied_setpoints f),
      recomputed_of_sameBut answered (by decide) (stored.recompute_recomputed u),
      evaluated_of_sameBut answered (by decide) (stored.recompute_evaluated u), ?_,
      fun online room addressed known => ?_, ?_⟩
    · unfold shareToldOfDemand at told ⊢
      rw [demand]
      exact ⟨fun h => toldShare_of_share_eq rfl share (told.1 h),
        fun h1 h2 h3 => share.trans (told.2 h1 h2 h3)⟩
    · rw [applied, if_pos (by simp [Frame.answered, addressed, known]),
        placeReply_of_room (by rw [station, online]; rfl) (by rw [room']; exact room), placeEntry_queue]
      exact List.mem_append_right _ (List.mem_singleton.mpr rfl)
    · exact frame_of_setpointItems changes plant
  · have answers := applySetpoint_plant (s := u) plant f
    rw [answers] at run
    refine ⟨_, run, ?_, ?_, fun online room addressed known => ?_, fun h => ?_⟩
    · split_ifs
      · rw [placeReply_eq]
      · rfl
    · split_ifs
      · exact (placeReply_changes _ _ _ _ _).of_not_mem (i := .pair) (by decide)
      · rfl
    · rw [if_pos (by simp [Frame.answered, addressed, known]),
        placeReply_of_room (s := u) (by rw [show u.member.station = _ from online]; rfl) room,
        placeEntry_queue]
      rfl
    · split_ifs with answered
      · have refused : u.member.station.allows .setpointReply = false := by
          obtain ⟨addressed, known⟩ : f.dest.toNat ≠ 0 ∧ f.src.toNat ≠ 0 := by
            simpa [Frame.answered] using answered
          rw [allows_reply]
          simpa using (h.resolve_left addressed).resolve_left known
        rw [placeReply_of_refused refused]
      · rfl

end Sys2Proof.Machine
end

section
/-! PROOF. The contacts: levels, debouncing and what is handed on (R31 to R33, R61, R155). -/

namespace Sys2Proof.Machine

namespace State
variable {s : State}

theorem onContact_contact (s : State) (c : Contact) (f : ContactInput → ContactInput) :
    (s.onContact c f).sensing.contact c = f (s.sensing.contact c) := by
  cases c <;> rfl

/-- The rest of the sensing unit stands. -/
theorem onContact_others (s : State) (c : Contact) (f : ContactInput → ContactInput) :
    (∀ c', c' ≠ c → (s.onContact c f).sensing.contact c' = s.sensing.contact c') ∧
      (s.onContact c f).sensing.first = s.sensing.first ∧
      (s.onContact c f).sensing.second = s.sensing.second ∧
      (s.onContact c f).sensing.sample = s.sensing.sample := by
  refine ⟨fun c' h => ?_, ?_⟩
  · cases c <;> cases c'
    · exact absurd rfl h
    · rfl
    · rfl
    · exact absurd rfl h
  · cases c <;> exact ⟨rfl, rfl, rfl⟩

/-- A level is all that a part in START, or a contact not in use, sees. -/
theorem levelChange_unused {c : Contact} {level : Level} (new : (s.sensing.contact c).level ≠ level)
    (unused : s.member.station = .start ∨ s.contactInUse c = false) :
    s.levelChange c level = s.onContact c fun x => { x with level } := by
  have off : (s.member.station != .start && s.contactInUse c) = false := by
    rcases unused with h | h <;> simp [h]
  unfold levelChange
  rw [if_neg (by simpa using new), off]
  rfl

theorem levelChange_used {c : Contact} {level : Level} (new : (s.sensing.contact c).level ≠ level)
    (started : s.member.station ≠ .start) (used : s.contactInUse c = true) :
    s.levelChange c level = (s.onContact c fun x => { x with level }).debounceAgain c := by
  have on : (s.member.station != .start && s.contactInUse c) = true :=
    Bool.and_eq_true_iff.mpr ⟨bne_iff_ne.mpr started, used⟩
  unfold levelChange
  rw [if_neg (by simpa using new), on]
  rfl

end State

open State in
/-- The level's part of O29: the level is seen, and the debounce timer where the contact is worked. -/
theorem contactLevel_seen (s : State) (c : Contact) (level : Level) (held : s.held = false)
    (new : (s.sensing.contact c).level ≠ level) : ∃ f : ContactInput → ContactInput,
    exec (.contactLevelChange c level) s = .next (s.onContact c f) ∧
      f (s.sensing.contact c) = { s.sensing.contact c with
        level := level
        debounce :=
          if s.member.station = .start ∨ s.contactInUse c = false then (s.sensing.contact c).debounce
          else if levelActive s.role level ≠ (s.sensing.contact c).active then .running (s.now + 2000)
          else .stopped } := by
  have run : exec (.contactLevelChange c level) s = .next (s.levelChange c level) :=
    congrArg Host.Outcome.next (s.take_running _ held)
  by_cases unused : s.member.station = .start ∨ s.contactInUse c = false
  · rw [levelChange_unused new unused] at run
    exact ⟨_, run, by rw [if_pos unused]⟩
  · obtain ⟨started, used⟩ := not_or.mp unused
    rw [levelChange_used new started (by simpa using used)] at run
    set again : ContactInput → ContactInput := fun x => { x with
      level := level
      debounce := if levelActive s.role level != x.active then s.timer Config.debounceMs else .stopped }
    have twice : (s.onContact c fun x => { x with level }).debounceAgain c = s.onContact c again := by
      cases c <;> rfl
    rw [twice] at run
    refine ⟨again, run, ?_⟩
    rw [if_neg unused]
    simp only [again, bne_iff_ne]
    rfl

namespace State
variable {s : State}

/-- The state with a contact's debounced state taken from its level. -/
def settled (s : State) (c : Contact) : State :=
  s.onContact c fun x => { x with active := levelActive s.role x.level, debounce := .stopped, changed := true }

theorem debounced_eq (s : State) (c : Contact) : s.debounced c = (s.settled c).contactChanged s c := rfl

theorem contactChanged_window (zone : s.role = .zone) (old : State) :
    s.contactChanged old .first = ((s.evaluate old).shareTrigger).promptFlags old := by
  unfold contactChanged
  rw [zone]

theorem contactChanged_occupancy (zone : s.role = .zone) (old : State) :
    s.contactChanged old .second = s := by
  unfold contactChanged
  rw [zone]

/-- The sequencer's protection with a DEFROST ACTIVE counted as ignored, where it is (R155). -/
def defrostCounted (s : State) (c : Contact) : Protection :=
  { s.plant.prot with
    ignored := if c = .first ∧ s.defrostActive = true ∧ s.plant.arb.mode ≠ .heat
      then min 255 (s.plant.prot.ignored + 1) else s.plant.prot.ignored }

theorem contactChanged_plant (plant : s.role = .plant) (old : State) (c : Contact) :
    s.contactChanged old c = ({ s with plant := { s.plant with prot := s.defrostCounted c } }).plantTrigger := by
  have ignores (b : Bool) (h : b = (s.defrostActive && s.plant.arb.mode != .heat)) :
      s.andIf b (fun t => t.onPlant fun p =>
        { p with prot := { p.prot with ignored := saturate p.prot.ignored 255 } }) =
      { s with plant := { s.plant with prot := s.defrostCounted .first } } := by
    have counts : b = true ↔ s.defrostActive = true ∧ s.plant.arb.mode ≠ .heat := by simp [h]
    unfold defrostCounted
    cases b
    · rw [andIf_false, if_neg fun k => Bool.noConfusion (counts.mpr k.2)]
    · rw [andIf_true, if_pos ⟨rfl, counts.mp rfl⟩]
      rfl
  cases c
  · have worked : s.contactChanged old .first = (s.andIf (s.defrostActive && s.plant.arb.mode != .heat)
        fun t => t.onPlant fun p =>
          { p with prot := { p.prot with ignored := saturate p.prot.ignored 255 } }).plantTrigger := by
      unfold contactChanged
      split
      next zone _ => exact Role.noConfusion (plant.symm.trans zone)
      next zone _ => exact Role.noConfusion (plant.symm.trans zone)
      next => rfl
      next h => cases h
    rw [worked, ignores _ rfl]
  · unfold contactChanged
    split
    next zone _ => exact Role.noConfusion (plant.symm.trans zone)
    next zone _ => exact Role.noConfusion (plant.symm.trans zone)
    next h => cases h
    next => rfl

/-- Only the flight decides whether the sequencer was told. -/
theorem toldPlant_of_flight {u t : State} (same : u.plant.flight = s.plant.flight) (h : toldPlant u t) :
    toldPlant s t := by
  unfold toldPlant at h ⊢
  rwa [← same]

theorem evaluate_sharesOn (s old : State) : s.sharesOn (s.evaluate old) :=
  ((sharesOn_of_sameBut (s.onDemand_changes _ (by simp)) (by decide)).trans
    (andIf_sharesOn (fun w => sharesOn_of_told w.shareTrigger_told) _ _)).trans
    (sharesOn_of_sameBut (sameBut_andIf promptCause_changes _ _) (by decide))

end State

open State in
/-- Settles O29: the level moves the timer, and the debounced state goes to the blocks of its role. -/
theorem contactsAreDebouncedAndHandedOn : Obligations.ContactsAreDebouncedAndHandedOn := by
  refine ⟨fun s c level held new => ?_, fun s c d held timer => ?_⟩
  · obtain ⟨f, run, seen⟩ := contactLevel_seen s c level held new
    obtain ⟨others, first, second, sample⟩ := s.onContact_others c f
    refine ⟨_, run, ?_, (s.onContact_contact c f).trans seen, others, first, second, sample⟩
    obtain ⟨g, frame⟩ := s.onContact_frame c f
    rw [frame]
  · set u := s.reach d with hu
    set v := u.settled c with hv
    have run : exec (.debounceExpiry c) s = .next (v.contactChanged u c) := by
      show Host.Outcome.next _ = _
      rw [timer, s.takeExpiry_running d _ held, debounced_eq]
    have changes := exec_changes rfl run
    have told := v.contactChanged_changes u c
    obtain ⟨g, frame⟩ := u.onContact_frame c fun x =>
      { x with active := levelActive u.role x.level, debounce := .stopped, changed := true }
    have frame' : v = { u with sensing := g } := frame
    have contact (k : Contact) : (v.contactChanged u c).sensing.contact k = v.sensing.contact k :=
      contact_of_sameBut told (by decide) k
    have active := u.onContact_contact c fun x =>
      { x with active := levelActive u.role x.level, debounce := .stopped, changed := true }
    refine ⟨_, run, (contact c).trans active, fun k hk => (contact k).trans ((u.onContact_others c _).1 k hk),
      fun zone hc => ?_, fun zone hc => ?_, fun plant => ?_,
      changes.of_not_mem (i := .drive) (by decide), member_of_sameBut changes (by decide),
      changes.of_not_mem (i := .setpoints) (by decide)⟩
    · subst hc
      have role : v.role = .zone := by rw [frame']; exact zone
      have wanted : v.demand.wanted = s.demand.wanted := by rw [frame']; rfl
      rw [contactChanged_window role]
      set w := v.evaluate u with hw
      have after : w.sameBut toldItems (w.shareTrigger.promptFlags u) :=
        (w.shareTrigger_changes.mono (by decide)).trans ((promptFlags_changes _ u).mono (by decide))
      refine ⟨evaluated_of_sameBut after (by decide) ?_, ?_⟩
      · rw [← wanted]
        exact v.evaluate_evaluated u
      · have triggered := toldShare_after w.shareTrigger_told
          (sharesOn_of_sameBut (w.shareTrigger.promptFlags_changes u) (by decide))
        have same : s.sharesOn v := sharesOn_of_sameBut (a := [.clock, .contacts])
          ((s.sameBut_reach d (by decide)).trans ((u.onContact_changes .first _).mono (by decide))) (by decide)
        exact toldShare_before (same.trans (v.evaluate_sharesOn u)) triggered
    · subst hc
      have role : v.role = .zone := by rw [frame']; exact zone
      rw [contactChanged_occupancy role, frame']
      rfl
    · have role : v.role = .plant := by rw [frame']; exact plant
      have block : v.plant = s.plant := by rw [frame']; rfl
      have counts : (c = .first ∧ v.defrostActive = true ∧ v.plant.arb.mode ≠ .heat) ↔
          (c = .first ∧ (s.sensing.contact .first).level = .closed ∧ s.plant.arb.mode ≠ .heat) := by
        refine and_congr_right fun hc => ?_
        subst hc
        have closed : v.defrostActive = levelActive .plant (s.sensing.contact .first).level := by
          unfold defrostActive
          rw [role]
          show levelActive s.role _ = _
          rw [plant]
          rfl
        rw [closed, block]
        cases (s.sensing.contact .first).level <;> simp [levelActive]
      have prot : v.defrostCounted c = { s.plant.prot with
          ignored := if c = .first ∧ (s.sensing.contact .first).level = .closed ∧ s.plant.arb.mode ≠ .heat
            then min 255 (s.plant.prot.ignored + 1) else s.plant.prot.ignored } := by
        unfold defrostCounted
        rw [block] at counts ⊢
        simp only [counts]
      rw [contactChanged_plant role]
      refine ⟨toldPlant_of_flight (congrArg Plant.flight block) (plantTrigger_told _ role), ?_⟩
      obtain ⟨f, m, h⟩ := plantTrigger_frame { v with plant := { v.plant with prot := v.defrostCounted c } }
      rw [h]
      exact prot

end Sys2Proof.Machine
end

section
/-! PROOF. Aging, refreshing and evicting in the peer table (R14, R16 to R18, R61, R106). -/

namespace Sys2Proof.Machine

/-! ### Aging (R17, R18) -/

theorem Entry.older_eq {e : Entry} (young : e.age ≤ 179) : e.older = { e with
    age := e.age + 1
    standing := if e.age + 1 = staleLimit e.role then .stale else e.standing } := by
  have age : saturate e.age 255 = e.age + 1 := by
    unfold saturate
    omega
  simp [older, age]

/-- The table one second later, its entries all below their end. -/
theorem ageTable_eq {table : List Entry} (young : ∀ e ∈ table, e.age ≤ 179) :
    ageTable table = (table.filter fun e => e.age != 179).map fun e => { e with
      age := e.age + 1
      standing := if e.age + 1 = staleLimit e.role then .stale else e.standing } := by
  have kept : table.filter (fun e => e.older.age != 180) = table.filter fun e => e.age != 179 := by
    refine List.filter_congr fun e he => ?_
    rw [Entry.older_eq (young e he)]
    simp
  unfold ageTable
  rw [List.filter_map, show ((fun e : Entry => e.age != 180) ∘ Entry.older) = fun e => e.older.age != 180
    from rfl, kept]
  exact List.map_congr_left fun e he => Entry.older_eq (young e (List.mem_filter.mp he).1)

/-- An entry that goes or turns STALE makes the aging a change. -/
theorem agingChanges_of {table : List Entry} (young : ∀ e ∈ table, e.age ≤ 179)
    (h : ∃ e ∈ table, e.age = 179 ∨ (e.standing = .fresh ∧ e.age + 1 = staleLimit e.role)) :
    agingChanges table = true := by
  obtain ⟨e, he, how⟩ := h
  refine List.any_eq_true.mpr ⟨e, he, ?_⟩
  rw [Entry.older_eq (young e he)]
  rcases how with gone | ⟨fresh, limit⟩
  · simp [gone]
  · simp [fresh, limit]

open State in
/-- Settles O9: the table is aged at once, or the aging counted for later. -/
theorem agingExpiryAgesTheTable : Obligations.AgingExpiryAgesTheTable := by
  refine ⟨fun s d held timer free young => ?_, fun s d held timer taken => ?_⟩
  · set u := (s.reach d).onMember fun m => { m with aging := (s.reach d).timer Config.agingMs } with hu
    have run : exec .agingExpiry s = .next u.applyAging := by
      show Host.Outcome.next _ = _
      rw [timer, s.takeExpiry_running d _ held]
      exact congrArg Host.Outcome.next (if_neg (by rw [show (s.reach d).occupied = false from free]; decide))
    obtain ⟨member, frame⟩ := u.tableBecomes_keeps (ageTable u.member.table) (agingChanges u.member.table)
    refine ⟨_, run, ?_, fun changes => ?_, ?_, ?_⟩
    · refine (u.tableBecomes_table _ _).trans ((ageTable_eq young).trans (List.map_congr_left fun e _ => ?_))
      unfold staleLimit
      cases e.role <;> rfl
    · obtain ⟨share, plant⟩ := u.tableBecomes_told (ageTable u.member.table)
      unfold applyAging
      rw [agingChanges_of (table := u.member.table) young changes]
      exact ⟨toldShare_of_share_eq rfl rfl share, fun h => toldPlant_of_plant_eq rfl rfl rfl (plant h)⟩
    · unfold applyAging
      rw [member]
      rfl
    · unfold applyAging
      rw [frame]
      rfl
  · show Host.Outcome.next _ = _
    rw [timer, s.takeExpiry_running d _ held]
    exact congrArg Host.Outcome.next (if_pos taken)

/-! ### Eviction (R16) -/

theorem oldestStale_ge (table : List Entry) : ∀ e ∈ table, e.standing = .stale → e.age ≤ oldestStale table := by
  have grows : ∀ (xs : List Entry) (n : Nat),
      n ≤ xs.foldl (fun n e => if e.standing == .stale then max n e.age else n) n ∧
      ∀ e ∈ xs, e.standing = .stale →
        e.age ≤ xs.foldl (fun n e => if e.standing == .stale then max n e.age else n) n := by
    intro xs
    induction xs with
    | nil => exact fun n => ⟨le_refl n, fun e he => nomatch he⟩
    | cons x xs ih =>
      intro n
      obtain ⟨above, each⟩ := ih (if x.standing == .stale then max n x.age else n)
      have first : n ≤ (if x.standing == .stale then max n x.age else n) := by split <;> omega
      refine ⟨first.trans above, fun e he stale => ?_⟩
      rcases List.mem_cons.mp he with rfl | he
      · refine le_trans ?_ above
        rw [if_pos (by simp [stale])]
        exact le_max_right _ _
      · exact each e he stale
  exact (grows table 0).2

/-- With a STALE entry held, one of them has the greatest age. -/
theorem oldestStale_attained {table : List Entry} (h : ∃ e ∈ table, e.standing = .stale) :
    ∃ e ∈ table, e.standing = .stale ∧ e.age = oldestStale table := by
  have reached : ∀ (xs : List Entry) (n : Nat),
      xs.foldl (fun n e => if e.standing == .stale then max n e.age else n) n = n ∨
      ∃ e ∈ xs, e.standing = .stale ∧
        e.age = xs.foldl (fun n e => if e.standing == .stale then max n e.age else n) n := by
    intro xs
    induction xs with
    | nil => exact fun n => .inl rfl
    | cons x xs ih =>
      intro n
      rcases ih (if x.standing == .stale then max n x.age else n) with same | ⟨e, he, stale, age⟩
      · by_cases stale : x.standing = .stale
        · rw [if_pos (by simp [stale])] at same
          rcases Nat.le_total n x.age with below | above
          · refine .inr ⟨x, List.mem_cons_self, stale, ?_⟩
            rw [List.foldl_cons, if_pos (by simp [stale]), same, Nat.max_eq_right below]
          · refine .inl ?_
            rw [List.foldl_cons, if_pos (by simp [stale]), same, Nat.max_eq_left above]
        · rw [if_neg (by simpa using stale)] at same
          refine .inl ?_
          rw [List.foldl_cons, if_neg (by simpa using stale), same]
      · exact .inr ⟨e, List.mem_cons_of_mem x he, stale, age⟩
  rcases reached table 0 with none | some
  · obtain ⟨e, he, stale⟩ := h
    refine ⟨e, he, stale, ?_⟩
    have bound := oldestStale_ge table e he stale
    unfold oldestStale at bound ⊢
    omega
  · exact some

theorem victim_eq_none {table : List Entry} (fresh : ∀ e ∈ table, e.standing = .fresh) :
    victim table = none :=
  List.find?_eq_none.mpr fun e he => by simp [fresh e he]

/-- The victim: the oldest STALE entry, the first of several. -/
theorem victim_split {table : List Entry} (h : ∃ e ∈ table, e.standing = .stale) :
    ∃ before v after, table = before ++ v :: after ∧ victim table = some v ∧ v.standing = .stale ∧
      (∀ e ∈ before, e.standing = .stale → e.age < v.age) ∧
      (∀ e ∈ after, e.standing = .stale → e.age ≤ v.age) := by
  obtain ⟨x, hx, stale, oldest⟩ := oldestStale_attained h
  obtain ⟨v, hv⟩ : ∃ v, victim table = some v :=
    Option.isSome_iff_exists.mp (List.find?_isSome.mpr ⟨x, hx, by simp [stale, oldest]⟩)
  obtain ⟨before, after, split, picked, first⟩ := split_of_find? hv
  obtain ⟨vStale, vAge⟩ : v.standing = .stale ∧ v.age = oldestStale table := by simpa using picked
  refine ⟨before, v, after, split, hv, vStale, fun e he stale => ?_, fun e he stale => ?_⟩
  · have bound := oldestStale_ge table e (by simp [split, he]) stale
    have other : e.age ≠ oldestStale table := by simpa [stale] using first e he
    omega
  · rw [vAge]
    exact oldestStale_ge table e (by simp [split, he]) stale

theorem removeEntry_split {before after : List Entry} {v : Entry}
    (nodup : ((before ++ v :: after).map Entry.address).Nodup) :
    removeEntry (before ++ v :: after) v.address = before ++ after := by
  rw [List.map_append, List.map_cons, List.nodup_middle, List.nodup_cons] at nodup
  obtain ⟨alone, -⟩ := nodup
  have kept {q : List Entry} (h : ∀ e ∈ q, e.address ≠ v.address) :
      q.filter (fun e => e.address != v.address) = q := List.filter_eq_self.mpr fun e he => by simp [h e he]
  unfold removeEntry
  rw [List.filter_append, List.filter_cons_of_neg (by simp),
    kept fun e he h => alone (List.mem_append_left _ (List.mem_map.mpr ⟨e, he, h⟩)),
    kept fun e he h => alone (List.mem_append_right _ (List.mem_map.mpr ⟨e, he, h⟩))]

/-- Every chain of a table with an entry admitted. -/
theorem chain_admitEntry (table : List Entry) (e : Entry) (k : Nat) : chain (admitEntry table e) k =
    chain table k ++ if k = chainOf e.address then [e] else [] := by
  by_cases h : k = chainOf e.address
  · rw [if_pos h, h, chain_admitEntry_same]
  · rw [if_neg h, List.append_nil, chain_admitEntry_other table e h]

namespace State
variable {s : State}

theorem tableRecord_full {a : Nat} (r : Record) (new : ∀ e ∈ s.member.table, e.address ≠ a)
    (full : s.member.table.length = 24) (none : victim s.member.table = none) : s.tableRecord a r =
      s.onMember fun m => { m with tableFull := true, tableFullCount := saturate m.tableFullCount 255 } := by
  simp [tableRecord, findEntry_eq_none new, Config.tableRoom, full, none]

theorem tableRecord_evicting {a : Nat} (r : Record) {v : Entry}
    (new : ∀ e ∈ s.member.table, e.address ≠ a) (full : s.member.table.length = 24)
    (some : victim s.member.table = some v) : s.tableRecord a r =
      s.tableBecomes (admitEntry (removeEntry s.member.table v.address) (newEntry a r)) true := by
  simp [tableRecord, findEntry_eq_none new, Config.tableRoom, full, some]

end State

open State in
/-- Settles O13: the victim's place goes to the newcomer, or there is no victim. -/
theorem fullTableEvictsTheOldestStale : Obligations.FullTableEvictsTheOldestStale := by
  intro c f s writes wf full new
  obtain ⟨pair, current, run⟩ := exec_of_writesTable writes
  set u : State := { s with line := { s.line with pair, current } } with hu
  refine ⟨fun fresh => ?_, fun stale => ?_⟩
  · rw [tableRecord_full (s := u) _ new full (victim_eq_none fresh)] at run
    exact ⟨_, run, rfl, rfl, rfl⟩
  · obtain ⟨before, v, after, split, picked, vStale, first, last⟩ := victim_split stale
    have nodup := wf.2.1
    rw [split] at nodup
    rw [tableRecord_evicting (s := u) _ new full picked] at run
    obtain ⟨share, plant⟩ := u.tableBecomes_told
      (admitEntry (removeEntry u.member.table v.address) (newEntry f.src.toNat f.record))
    refine ⟨_, before, v, after, run, split, vStale, first, last, fun k => ?_,
      toldShare_of_share_eq rfl rfl share, fun h => toldPlant_of_plant_eq rfl rfl rfl (plant h)⟩
    rw [tableBecomes_table, chain_admitEntry, show u.member.table = before ++ v :: after from split,
      removeEntry_split nodup]
    rfl

end Sys2Proof.Machine
end

section
/-! PROOF. A known peer refreshed in place, and what its change tells (R14, R18, R61, R106). -/

namespace Sys2Proof.Machine

namespace State
variable {s t u : State}

/-! ### A plant reckoning in flight flies on -/

/-- A reckoning in flight stays in flight, and a pending mark stays. -/
def plantsOn (s t : State) : Prop := ∀ f, s.plant.flight = some f →
  t.plant.flight = some f ∧ (s.plant.mark = true → t.plant.mark = true)

theorem plantsOn_refl (s : State) : s.plantsOn s := fun _ h => ⟨h, id⟩

theorem plantsOn.trans (h : s.plantsOn t) (k : t.plantsOn u) : s.plantsOn u := fun f hf =>
  have ⟨flight, mark⟩ := h f hf
  have ⟨flight', mark'⟩ := k f flight
  ⟨flight', mark' ∘ mark⟩

theorem plantsOn_of_sameBut {a : List Item} (h : s.sameBut a t) (ha : .plantFlight ∉ a) :
    s.plantsOn t := by
  obtain ⟨flight, mark⟩ := h.of_not_mem ha
  intro f hf
  rw [flight, mark]
  exact ⟨hf, id⟩

theorem plantsOn_of_told (h : toldPlant s t) : s.plantsOn t := fun f hf =>
  have ⟨flight, mark⟩ := h.2 f hf
  ⟨flight, fun _ => mark⟩

theorem plantTrigger_plantsOn (s : State) : s.plantsOn s.plantTrigger := by
  cases role : s.role
  · unfold plantTrigger
    rw [role]
    exact s.plantsOn_refl
  · exact plantsOn_of_told (s.plantTrigger_told role)

theorem andIf_plantsOn {act : State → State} (h : ∀ u : State, u.plantsOn (act u)) (s : State) (c : Bool) :
    s.plantsOn (s.andIf c act) := by
  cases c
  · exact s.plantsOn_refl
  · exact h s

theorem toldPlant_before (k : s.plantsOn t) (h : toldPlant t u) : toldPlant s u :=
  ⟨h.1, fun f hf => h.2 f (k f hf).1⟩

theorem toldPlant_after (h : toldPlant s t) (k : t.plantsOn u) : toldPlant s u := by
  obtain ⟨f, hf⟩ := Option.isSome_iff_exists.mp h.1
  have stays := k f hf
  refine ⟨by rw [stays.1]; rfl, fun g hg => ?_⟩
  obtain ⟨flight, mark⟩ := h.2 g hg
  obtain rfl : g = f := Option.some.inj (flight.symm.trans hf)
  exact ⟨stays.1, stays.2 mark⟩

theorem tableBecomes_plantsOn (s : State) (table : List Entry) (changed : Bool) :
    s.plantsOn (s.tableBecomes table changed) :=
  ((plantsOn_of_sameBut (s.onMember_roster_changes _ _) (by decide)).trans
    (andIf_plantsOn (fun w => (plantsOn_of_sameBut w.shareTrigger_changes (by decide)).trans
      (plantTrigger_plantsOn _)) _ _)).trans
    (plantsOn_of_sameBut (promptFlags_changes _ _) (by decide))

/-! ### A table that changes without the event -/

/-- Without the event neither unit learns of the table, and the followed plant stands. -/
theorem tableBecomes_quiet (s : State) (table : List Entry) :
    (s.tableBecomes table false).share = s.share ∧
      (s.tableBecomes table false).plant.flight = s.plant.flight ∧
      (s.tableBecomes table false).plant.mark = s.plant.mark ∧
      (s.tableBecomes table false).member.followed = s.member.followed := by
  set w := s.onMember fun m => { m with table, followed := s.member.followed }
  have prompts : w.sameBut [.wire, .announcer] (s.tableBecomes table false) := promptFlags_changes _ _
  obtain ⟨flight, mark⟩ := prompts.of_not_mem (i := .plantFlight) (by decide)
  obtain ⟨-, followed⟩ := prompts.of_not_mem (i := .roster) (by decide)
  exact ⟨share_of_sameBut (s := w) prompts (by decide) (by decide), flight, mark, followed⟩

end State

/-! ### What a changed record triggers (R61, R106) -/

theorem ZoneRecord.shareDiffers_iff (a b : ZoneRecord) : a.shareDiffers b = true ↔ zoneFieldsDiffer a b := by
  simp [shareDiffers, zoneFieldsDiffer, or_assoc]

theorem PlantRecord.shareDiffers_iff (a b : PlantRecord) :
    a.shareDiffers b = true ↔ plantFieldsDiffer a b := by
  simp [shareDiffers, plantFieldsDiffer, or_assoc]

theorem State.recordTriggersShare_iff (s : State) (old : Entry) (new : Record) :
    s.recordTriggersShare old new = true ↔
      (∃ a b, old.record = .zone a ∧ new = .zone b ∧ old.standing = .fresh ∧ zoneFieldsDiffer a b) ∨
      (∃ a b, old.record = .plant a ∧ new = .plant b ∧ s.role = .zone ∧
        s.member.followed = some old.address ∧ plantFieldsDiffer a b) := by
  unfold recordTriggersShare
  split
  next a b hold =>
    simp [hold, ZoneRecord.shareDiffers_iff]
  next a b hold =>
    simp [hold, PlantRecord.shareDiffers_iff, and_assoc]
  next hold => simp [hold]
  next hold => simp [hold]

theorem recordTriggersPlant_iff (old : Entry) (new : Record) : recordTriggersPlant old new = true ↔
    ∃ a b, old.record = .zone a ∧ new = .zone b ∧ old.standing = .fresh ∧
      (zoneFieldsDiffer a b ∨ a.weight ≠ b.weight) := by
  unfold recordTriggersPlant
  split
  next a b hold =>
    simp [hold, ZoneRecord.shareDiffers_iff]
  next hold => simp [hold]
  next hold => simp [hold]
  next hold => simp [hold]

namespace State
variable {s : State}

/-- The peer has returned to FRESH or changed its role (R18). -/
def returns (old : Entry) (r : Record) : Bool := old.standing == .stale || old.role != r.role

theorem tableRecord_known {a : Nat} {old : Entry} (known : findEntry s.member.table a = some old)
    (r : Record) : s.tableRecord a r =
      ((s.tableBecomes (refreshEntry s.member.table a r) (returns old r)).andIf
        (s.recordTriggersShare old r) shareTrigger).andIf (recordTriggersPlant old r) plantTrigger := by
  unfold tableRecord
  rw [known]
  rfl

/-- A peer's refreshing told the share unit if it returned or its change is a trigger. -/
theorem tableRecord_toldShare {a : Nat} {old : Entry} (known : findEntry s.member.table a = some old)
    {r : Record} (h : returns old r = true ∨ s.recordTriggersShare old r = true) :
    toldShare s (s.tableRecord a r) := by
  rw [tableRecord_known known]
  set v := s.tableBecomes (refreshEntry s.member.table a r) (returns old r) with hv
  have last (w : State) : w.sharesOn (w.andIf (recordTriggersPlant old r) plantTrigger) :=
    andIf_sharesOn (fun w => sharesOn_of_sameBut w.plantTrigger_changes (by decide)) w _
  refine toldShare_after ?_ (last _)
  rcases h with h | h
  · rw [hv, h]
    exact toldShare_after (s.tableBecomes_told _).1
      (andIf_sharesOn (fun w => sharesOn_of_told w.shareTrigger_told) _ _)
  · rw [h, andIf_true]
    exact toldShare_before (s.tableBecomes_sharesOn _ _) v.shareTrigger_told

theorem tableRecord_toldPlant {a : Nat} {old : Entry} (known : findEntry s.member.table a = some old)
    {r : Record} (plant : s.role = .plant)
    (h : returns old r = true ∨ recordTriggersPlant old r = true) :
    toldPlant s (s.tableRecord a r) := by
  rw [tableRecord_known known]
  set v := s.tableBecomes (refreshEntry s.member.table a r) (returns old r) with hv
  set w := v.andIf (s.recordTriggersShare old r) shareTrigger with hw
  have shared : v.sameBut [.shareFlight] w := sameBut_andIf (fun w => w.shareTrigger_changes) _ _
  rcases h with h | h
  · refine toldPlant_after ?_ (andIf_plantsOn plantTrigger_plantsOn _ _)
    refine toldPlant_after ?_ (plantsOn_of_sameBut shared (by decide))
    rw [hv, h]
    exact (s.tableBecomes_told _).2 plant
  · obtain ⟨-, role, -⟩ := shared.of_not_mem (i := .fixed) (by decide)
    rw [h, andIf_true]
    exact toldPlant_before ((s.tableBecomes_plantsOn _ _).trans (plantsOn_of_sameBut shared (by decide)))
      (w.plantTrigger_told (role.trans ((s.tableBecomes_role _ _).trans plant)))

/-- A change that is no trigger of the share unit leaves it. -/
theorem tableRecord_shareStands {a : Nat} {old : Entry} (known : findEntry s.member.table a = some old)
    {r : Record} (still : returns old r = false) (none : s.recordTriggersShare old r = false) :
    (s.tableRecord a r).share = s.share ∧ (s.tableRecord a r).member.followed = s.member.followed := by
  rw [tableRecord_known known, still, none, andIf_false]
  set v := s.tableBecomes (refreshEntry s.member.table a r) false with hv
  have last : v.sameBut [.plantFlight] (v.andIf (recordTriggersPlant old r) plantTrigger) :=
    sameBut_andIf (fun w => w.plantTrigger_changes) _ _
  obtain ⟨share, -, -, followed⟩ := s.tableBecomes_quiet (refreshEntry s.member.table a r)
  exact ⟨(share_of_sameBut last (by decide) (by decide)).trans share,
    (last.of_not_mem (i := .roster) (by decide)).2.trans followed⟩

theorem tableRecord_plantStands {a : Nat} {old : Entry} (known : findEntry s.member.table a = some old)
    {r : Record} (still : returns old r = false) (none : recordTriggersPlant old r = false) :
    (s.tableRecord a r).plant.flight = s.plant.flight ∧
      (s.tableRecord a r).plant.mark = s.plant.mark := by
  rw [tableRecord_known known, still, none, andIf_false]
  set v := s.tableBecomes (refreshEntry s.member.table a r) false with hv
  have last : v.sameBut [.shareFlight] (v.andIf (s.recordTriggersShare old r) shareTrigger) :=
    sameBut_andIf (fun w => w.shareTrigger_changes) _ _
  obtain ⟨flight, mark⟩ := last.of_not_mem (i := .plantFlight) (by decide)
  obtain ⟨-, flight', mark', -⟩ := s.tableBecomes_quiet (refreshEntry s.member.table a r)
  exact ⟨flight.trans flight', mark.trans mark'⟩

theorem tableRecord_refreshed {a : Nat} {old : Entry} (known : findEntry s.member.table a = some old)
    (r : Record) : (s.tableRecord a r).member.table = refreshEntry s.member.table a r := by
  rw [tableRecord_known known]
  have last (v : State) (b c : Bool) : v.sameBut [.shareFlight, .plantFlight]
      ((v.andIf b shareTrigger).andIf c plantTrigger) :=
    (sameBut_andIf (fun w => w.shareTrigger_changes.mono (by decide)) _ _).trans
      (sameBut_andIf (fun w => w.plantTrigger_changes.mono (by decide)) _ _)
  exact ((last _ _ _).of_not_mem (i := .roster) (by decide)).1.trans (s.tableBecomes_table _ _)

/-- The blocks a table write reaches. -/
theorem frame_of_recordItems {a : List Item} (h : s.sameBut a t)
    (ha : a ⊆ .current :: .pair :: .memberLatches :: tableItems) : t = { s with
      member := t.member, line := t.line, share := t.share, demand := t.demand, plant := t.plant } := by
  refine eq_of_same fun i => ?_
  have other := (h.mono ha).of_not_mem (i := i)
  cases i
  case fixed | clock | channels | contacts | sample | setpoints | drive | responder =>
    exact other (by decide)
  all_goals simp [Item.same]

end State

open State in
/-- Settles O12: the entry is refreshed, and each trigger is raised by the change that names it alone. -/
theorem knownPeerIsRefreshedInPlace : Obligations.KnownPeerIsRefreshedInPlace := by
  intro c f s old writes found
  obtain ⟨pair, current, run⟩ := exec_of_writesTable writes
  set u : State := { s with line := { s.line with pair, current } } with hu
  have known : findEntry u.member.table f.src.toNat = some old := found
  have still (fresh : old.standing = .fresh) (role : old.role = f.record.role) :
      returns old f.record = false := by simp [returns, fresh, role]
  refine ⟨_, run, (tableRecord_refreshed known _).trans ?_, fun h => ?_, fun a b fresh ha hb differ => ?_,
    fun a b zone followed ha hb differ => ?_, fun a b plant fresh ha hb differ => ?_,
    fun fresh role zone plant => ?_, fun fresh role zone => ?_, ?_⟩
  · refine List.map_congr_left fun e _ => ?_
    simp only [beq_iff_eq]
    rfl
  · have back : returns old f.record = true := by
      rcases h with h | h <;> simp [returns, h]
    exact ⟨toldShare_of_share_eq rfl rfl (tableRecord_toldShare known (.inl back)),
      fun plant => toldPlant_of_plant_eq rfl rfl rfl (tableRecord_toldPlant known plant (.inl back))⟩
  · exact toldShare_of_share_eq rfl rfl (tableRecord_toldShare known
      (.inr ((u.recordTriggersShare_iff old _).mpr (.inl ⟨a, b, ha, hb, fresh, differ⟩))))
  · exact toldShare_of_share_eq rfl rfl (tableRecord_toldShare known
      (.inr ((u.recordTriggersShare_iff old _).mpr (.inr ⟨a, b, ha, hb, zone, followed, differ⟩))))
  · exact toldPlant_of_plant_eq rfl rfl rfl (tableRecord_toldPlant known plant
      (.inr ((recordTriggersPlant_iff old _).mpr ⟨a, b, ha, hb, fresh, differ⟩)))
  · refine tableRecord_shareStands known (still fresh role) (Bool.eq_false_iff.mpr fun h => ?_)
    rcases (u.recordTriggersShare_iff old _).mp h with ⟨a, b, ha, hb, -, differ⟩ |
      ⟨a, b, ha, hb, hr, hf, differ⟩
    · exact zone a b ha hb differ
    · exact plant a b hr hf ha hb differ
  · refine tableRecord_plantStands known (still fresh role) (Bool.eq_false_iff.mpr fun h => ?_)
    obtain ⟨a, b, ha, hb, -, differ⟩ := (recordTriggersPlant_iff old _).mp h
    obtain ⟨same, weight⟩ := zone a b ha hb
    exact differ.elim same fun k => k weight
  · have changes := u.tableRecord_changes f.src.toNat f.record
    exact (frame_of_recordItems changes (by decide)).trans rfl

end Sys2Proof.Machine
end

section
/-! PROOF. The end of a snapshot, and what waited on it (R11, R18, R23, R64, R108). -/

namespace Sys2Proof.Machine

namespace State
variable {s u : State}

/-! ### From the snapshot's end to the computation (R64, R108) -/

/-- The share reckoning at its computation. -/
def shareComputes (s : State) (f : ShareFlight) : State := { s with
  now := max s.now f.due
  share := { s.share with flight := some { f with phase := .computing, due := f.due + 2 } } }

/-- The plant reckoning at its computation. -/
def plantComputes (s : State) (f : PlantFlight) : State := { s with
  now := max s.now f.due
  plant := { s.plant with flight := some { f with phase := .computing, due := f.due + 2 } } }

theorem endSnapshot_share {f : ShareFlight} (flies : s.share.flight = some f) (phase : f.phase = .snapshot) :
    s.endSnapshot .share = (s.shareComputes f).occupationEnds := by
  obtain ⟨p, due, snapshot⟩ := f
  obtain rfl : p = .snapshot := phase
  unfold endSnapshot
  simp only [flies]
  rfl

theorem endSnapshot_plant {f : PlantFlight} (flies : s.plant.flight = some f) (phase : f.phase = .snapshot) :
    s.endSnapshot .plant = (s.plantComputes f).occupationEnds := by
  unfold endSnapshot
  simp only [flies, phase]
  rfl

/-- Where nothing waits, the end of an occupation changes nothing. -/
theorem occupationEnds_idle (deferred : s.member.deferred = 0) (none : s.member.emptying = none) :
    s.occupationEnds = s := by
  have same : s.onMember (fun m => { m with deferred := 0 }) = s := by
    unfold onMember
    rw [← deferred]
  unfold occupationEnds
  split_ifs
  · rfl
  · rw [same, deferred, none]
    rfl

/-! ### The agings that waited -/

/-- The state with its waiting agings applied. -/
def agingsApplied (s : State) : State :=
  applyAging^[s.member.deferred] (s.onMember fun m => { m with deferred := 0 })

theorem occupationEnds_of_none (free : s.occupied = false) (none : s.member.emptying = none) :
    s.occupationEnds = s.agingsApplied := by
  unfold occupationEnds
  rw [free, none]
  rfl

theorem occupationEnds_waits {b : Bool} (free : s.occupied = false) (waits : s.member.emptying = some b)
    (taken : s.agingsApplied.occupied = true) :
    s.occupationEnds = s.agingsApplied.onMember fun m => { m with followed := none } := by
  unfold occupationEnds
  rw [free, waits]
  exact if_pos taken

theorem occupationEnds_empties {b : Bool} (free : s.occupied = false) (waits : s.member.emptying = some b)
    (free' : s.agingsApplied.occupied = false) :
    s.occupationEnds = (s.agingsApplied.onMember fun m => { m with emptying := none }).applyEmptying b := by
  unfold occupationEnds
  rw [free, waits]
  exact if_neg (Bool.eq_false_iff.mp free')

theorem agings_table (n : Nat) (s : State) : (applyAging^[n] s).member.table = ageTable^[n] s.member.table := by
  induction n generalizing s with
  | zero => rfl
  | succ n ih =>
    rw [Function.iterate_succ_apply, Function.iterate_succ_apply, ih]
    exact congrArg _ (s.tableBecomes_table _ _)

theorem agings_changes (n : Nat) (s : State) : s.sameBut tableItems (applyAging^[n] s) :=
  sameBut_iterate (fun u => u.tableBecomes_changes _ _) n s

/-- The agings leave the plant followed, if any, the one that the table gives. -/
theorem agings_followed (n : Nat) (s : State)
    (h : s.member.followed = none ∨ s.member.followed = followedOf s.role s.member.table) :
    (applyAging^[n] s).member.followed = none ∨
      (applyAging^[n] s).member.followed = followedOf s.role (applyAging^[n] s).member.table := by
  induction n generalizing s with
  | zero => exact h
  | succ n ih =>
    have role : s.applyAging.role = s.role := s.tableBecomes_role _ _
    have step : s.applyAging.member.followed = none ∨
        s.applyAging.member.followed = followedOf s.applyAging.role s.applyAging.member.table := by
      rw [role]
      unfold applyAging
      rw [tableBecomes_followed, tableBecomes_table]
      cases changed : agingChanges s.member.table
      · rw [followedOf_of_freshPlants (freshPlants_ageTable changed)]
        exact h
      · exact .inr rfl
    rw [Function.iterate_succ_apply, ← role]
    exact ih _ step

/-! ### When an aging's event takes the table again -/

/-- In the zone role a change of the table begins no plant reckoning. -/
theorem tableBecomes_plantFlight (zone : s.role = .zone) (table : List Entry) (changed : Bool) :
    (s.tableBecomes table changed).plant.flight = s.plant.flight := by
  set w := s.onMember fun m => { m with
    table, followed := if changed then followedOf s.role table else s.member.followed }
  have prompts : (w.andIf changed membershipChange).sameBut [.wire, .announcer] (s.tableBecomes table changed) :=
    promptFlags_changes _ _
  obtain ⟨flight, -⟩ := prompts.of_not_mem (i := .plantFlight) (by decide)
  rw [flight]
  rcases w.andIf_cases changed membershipChange with ⟨-, h⟩ | ⟨-, h⟩ <;> rw [h]
  · have role : w.shareTrigger.role = .zone :=
      (w.shareTrigger_changes.of_not_mem (i := .fixed) (by decide)).2.1.trans zone
    obtain ⟨same, -⟩ := w.shareTrigger_changes.of_not_mem (i := .plantFlight) (by decide)
    unfold membershipChange plantTrigger
    rw [role]
    exact same
  · rfl

/-- With every reckoning of the part in flight, the agings begin none. -/
theorem agings_flights (n : Nat) (s : State) (share : s.share.flight.isSome = true)
    (plant : s.role = .zone ∨ s.plant.flight.isSome = true) :
    (applyAging^[n] s).share.flight = s.share.flight ∧ (applyAging^[n] s).plant.flight = s.plant.flight := by
  induction n generalizing s with
  | zero => exact ⟨rfl, rfl⟩
  | succ n ih =>
    have role : s.applyAging.role = s.role := s.tableBecomes_role _ _
    have share' : s.applyAging.share.flight = s.share.flight := by
      obtain ⟨f, hf⟩ := Option.isSome_iff_exists.mp share
      rw [hf]
      exact (s.tableBecomes_sharesOn _ _ f hf).1
    have plant' : s.applyAging.plant.flight = s.plant.flight := by
      rcases plant with zone | flies
      · exact tableBecomes_plantFlight zone _ _
      · obtain ⟨f, hf⟩ := Option.isSome_iff_exists.mp flies
        rw [hf]
        exact (s.tableBecomes_plantsOn _ _ f hf).1
    obtain ⟨h1, h2⟩ := ih s.applyAging (by rw [share']; exact share) (by rw [role, plant']; exact plant)
    rw [Function.iterate_succ_apply]
    exact ⟨h1.trans share', h2.trans plant'⟩

theorem occupied_of_flights {t : State} (share : t.share.flight = s.share.flight)
    (plant : t.plant.flight = s.plant.flight) : t.occupied = s.occupied := by
  unfold occupied
  rw [share, plant]

theorem firstPhase_snapshot {table : List Entry} (held : table ≠ []) :
    (firstPhase table.length).1 = .snapshot := by
  unfold firstPhase
  rw [if_neg (by simpa using held)]

theorem shareTrigger_occupied (grounded : s.share.flight = none) (held : s.member.table ≠ []) :
    s.shareTrigger.occupied = true := by
  unfold shareTrigger
  rw [grounded]
  exact (occupied_iff _).mpr (.inl ⟨_, rfl, firstPhase_snapshot held⟩)

theorem plantTrigger_occupied (plant : s.role = .plant) (grounded : s.plant.flight = none)
    (held : s.member.table ≠ []) : s.plantTrigger.occupied = true := by
  unfold plantTrigger
  rw [plant, grounded]
  exact (occupied_iff _).mpr (.inr ⟨_, rfl, firstPhase_snapshot held⟩)

/-- The event of a table that keeps an entry begins a snapshot of a unit at rest. -/
theorem tableBecomes_occupied (plant : s.role = .plant)
    (grounded : s.share.flight = none ∨ s.plant.flight = none) {table : List Entry} (held : table ≠ []) :
    (s.tableBecomes table true).occupied = true := by
  set w := s.onMember fun m => { m with table, followed := followedOf s.role table } with hw
  refine (fliesOn_of_sameBut (w.membershipChange.promptFlags_changes s) (by decide) (by decide)).occupied ?_
  rcases grounded with share | none
  · exact (plantTrigger_fliesOn _).occupied (shareTrigger_occupied (s := w) share held)
  · have changes := w.shareTrigger_changes
    obtain ⟨-, role, -⟩ := changes.of_not_mem (i := .fixed) (by decide)
    obtain ⟨flight, -⟩ := changes.of_not_mem (i := .plantFlight) (by decide)
    obtain ⟨table', -⟩ := changes.of_not_mem (i := .roster) (by decide)
    exact plantTrigger_occupied (role.trans plant) (flight.trans none) (by rw [table']; exact held)

/-- What the end of an occupation makes of a waiting emptying. -/
theorem occupationEnds_emptying {b : Bool} (free : s.occupied = false) (waits : s.member.emptying = some b)
    (unfollowed : s.member.followed = none) :
    s.occupationEnds.member.followed = none ∧
      ((s.agingsApplied.occupied = false ∧ s.occupationEnds.member.emptying = none ∧
          s.occupationEnds.member.table = []) ∨
        (s.agingsApplied.occupied = true ∧ s.occupationEnds.member.emptying = some b ∧
          s.occupationEnds.occupied = true ∧
          s.occupationEnds.member.table = ageTable^[s.member.deferred] s.member.table)) := by
  set v := s.onMember fun m => { m with deferred := 0 } with hv
  have aged : s.agingsApplied = applyAging^[s.member.deferred] v := rfl
  have changes := agings_changes s.member.deferred v
  obtain ⟨-, emptying⟩ := changes.of_not_mem (i := .waits) (by decide)
  cases taken : s.agingsApplied.occupied
  · rw [occupationEnds_empties free waits taken]
    refine ⟨?_, .inl ⟨rfl, ?_, tableBecomes_table _ _ _⟩⟩
    · unfold applyEmptying
      rw [tableBecomes_followed, followedOf_nil]
      split_ifs with changed
      · rfl
      · have empty : s.agingsApplied.member.table = [] := by
          simpa using (Bool.or_eq_false_iff.mp (Bool.eq_false_iff.mpr changed)).1
        rcases agings_followed s.member.deferred v (.inl unfollowed) with h | h
        · exact h
        · rw [← aged, empty, followedOf_nil] at h
          exact h
    · exact (tableBecomes_waits _ _ _).2
  · rw [occupationEnds_waits free waits taken]
    refine ⟨rfl, .inr ⟨rfl, ?_, taken, ?_⟩⟩
    · exact emptying.trans waits
    · exact agings_table s.member.deferred v

theorem occupationEnds_deferred (free : s.occupied = false) : s.occupationEnds.member.deferred = 0 := by
  have aged : s.agingsApplied.member.deferred = 0 :=
    ((agings_changes s.member.deferred _).of_not_mem (i := .waits) (by decide)).1
  cases waits : s.member.emptying with
  | none => rw [occupationEnds_of_none free waits, aged]
  | some b =>
    cases taken : s.agingsApplied.occupied
    · rw [occupationEnds_empties free waits taken]
      exact (tableBecomes_waits _ _ _).1.trans aged
    · rw [occupationEnds_waits free waits taken]
      exact aged

/-- With no aging waiting, the emptying that waited is an event of its own. -/
theorem occupationEnds_told {b : Bool} (free : s.occupied = false) (waits : s.member.emptying = some b)
    (none : s.member.deferred = 0) (changes : s.member.table ≠ [] ∨ b = true) :
    toldShare s s.occupationEnds ∧ (s.role = .plant → toldPlant s s.occupationEnds) := by
  have aged : s.agingsApplied = s.onMember fun m => { m with deferred := 0 } := by
    unfold agingsApplied
    rw [none]
    rfl
  rw [occupationEnds_empties free waits (by rw [aged]; exact free), aged]
  set v := (s.onMember fun m => { m with deferred := 0 }).onMember fun m => { m with emptying := Option.none }
  have changed : (!v.member.table.isEmpty || b) = true := by
    rcases changes with h | h
    · simp [v, h]
    · simp [h]
  obtain ⟨share, plant⟩ := v.tableBecomes_told []
  unfold applyEmptying
  rw [changed]
  exact ⟨toldShare_of_share_eq rfl rfl share, fun h => toldPlant_of_plant_eq rfl rfl rfl (plant h)⟩

/-- One aging whose event begins a snapshot again. -/
theorem agingsApplied_occupied (one : s.member.deferred = 1) (plant : s.role = .plant)
    (grounded : s.share.flight = none ∨ s.plant.flight = none) (young : ∀ e ∈ s.member.table, e.age ≤ 179)
    (changes : ∃ e ∈ s.member.table, e.age = 179 ∨ (e.standing = .fresh ∧ e.age + 1 = staleLimit e.role))
    (stays : ∃ e ∈ s.member.table, e.age < 179) : s.agingsApplied.occupied = true := by
  set v := s.onMember fun m => { m with deferred := 0 }
  have aged : s.agingsApplied = v.tableBecomes (ageTable s.member.table) (agingChanges s.member.table) := by
    unfold agingsApplied
    rw [one]
    rfl
  rw [aged, agingChanges_of young changes]
  refine tableBecomes_occupied (s := v) plant grounded ?_
  obtain ⟨e, he, age⟩ := stays
  rw [ageTable_eq young]
  exact List.ne_nil_of_mem (List.mem_map_of_mem (List.mem_filter.mpr ⟨he, by simpa using age.ne⟩))

end State

open State in
/-- Settles O10: the computation begins, and what waited is applied in its order. -/
theorem snapshotEndBeginsTheComputation : Obligations.SnapshotEndBeginsTheComputation := by
  have ends (s : State) (unit : ReckoningUnit) (held : s.held = false) :
      exec (.snapshotEnd unit) s = .next (s.endSnapshot unit) :=
    congrArg Host.Outcome.next (s.take_running _ held)
  refine ⟨fun s f held flies phase deferred none => ?_, fun s f held flies phase deferred none => ?_,
    fun s u unit held how free unfollowed young => ?_⟩
  · rw [ends s _ held, endSnapshot_share flies phase,
      occupationEnds_idle (s := s.shareComputes f) deferred none]
    rfl
  · rw [ends s _ held, endSnapshot_plant flies phase,
      occupationEnds_idle (s := s.plantComputes f) deferred none]
    rfl
  · have ⟨run, member, role⟩ : exec (.snapshotEnd unit) s = .next u.occupationEnds ∧
        u.member = s.member ∧ u.role = s.role := by
      rcases how with ⟨rfl, f, flies, phase, rfl⟩ | ⟨rfl, f, flies, phase, rfl⟩
      · rw [ends s _ held, endSnapshot_share flies phase]
        exact ⟨rfl, rfl, rfl⟩
      · rw [ends s _ held, endSnapshot_plant flies phase]
        exact ⟨rfl, rfl, rfl⟩
    have changes := exec_changes rfl run
    rw [← member] at unfollowed young
    rw [← member, ← role]
    refine ⟨_, run, occupationEnds_deferred free, fun none => ?_, fun b waits => ?_,
      (changes.of_not_mem (i := .shareResult) (by decide)).1, changes.of_not_mem (i := .drive) (by decide),
      sensing_of_sameBut changes (by decide), changes.of_not_mem (i := .setpoints) (by decide)⟩
    · rw [occupationEnds_of_none free none]
      exact agings_table u.member.deferred _
    · have followed := unfollowed (by rw [waits]; rfl)
      obtain ⟨none, how'⟩ := occupationEnds_emptying free waits followed
      have freed (h : u.agingsApplied.occupied = false) : u.occupationEnds.member.emptying = .none := by
        rcases how' with ⟨-, emptied, -⟩ | ⟨taken, -⟩
        · exact emptied
        · exact Bool.noConfusion (h.symm.trans taken)
      refine ⟨none, ?_, fun h => freed ?_, fun zero changed => ?_, fun plant grounded one turns stays => ?_⟩
      · rcases how' with ⟨-, emptied, table⟩ | ⟨-, waiting, taken, table⟩
        · exact .inl ⟨emptied, table⟩
        · exact .inr ⟨waiting, taken, table⟩
      · rcases h with zero | ⟨share, plant⟩
        · unfold agingsApplied
          rw [zero]
          exact free
        · obtain ⟨share', plant'⟩ := agings_flights u.member.deferred
            (u.onMember fun m => { m with deferred := 0 }) share plant
          exact (occupied_of_flights share' plant').trans free
      · exact occupationEnds_told free waits zero changed
      · rcases how' with ⟨free', -⟩ | ⟨-, waiting, -⟩
        · exact Bool.noConfusion
            (free'.symm.trans (agingsApplied_occupied one plant grounded young turns stays))
        · exact waiting

end Sys2Proof.Machine
end

section
/-! PROOF. A sample expiry: the channels, their hand-over, and what each change tells (R25 to R30, R143). -/

namespace Sys2Proof.Machine

/-! ### A channel (R26 to R29) -/

theorem goodSample_value (role : Role) (first : Bool) (v : Int) :
    goodSample role first (.value v) = if plausible role first v then some v else none := rfl

theorem Channel.sample_good {role : Role} {first : Bool} {v : Int} (c : Channel)
    (good : plausible role first v = true) : c.sample role first (.value v) = c.good1 v := by
  unfold sample
  rw [goodSample_value, if_pos good]

theorem Channel.sample_bad {role : Role} {first : Bool} {r : Conversion} (c : Channel)
    (bad : ∀ v, r = .value v → plausible role first v = false) : c.sample role first r = c.bad1 := by
  cases r with
  | value v =>
    unfold sample
    rw [goodSample_value, if_neg (by simp [bad v rfl])]
  | openCircuit => rfl
  | shortCircuit => rfl

/-- The third good sample in a row ends a fault (R29). -/
theorem Channel.good1_ends {c : Channel} (failed : c.fault = true) (long : 2 ≤ c.good) (v : Int) :
    c.good1 v = { filtered := some v, fault := false, bad := 0, good := min 3 (c.good + 1) } := by
  have three : saturate c.good 3 = 3 := by
    unfold saturate
    omega
  have same : min 3 (c.good + 1) = 3 := by omega
  unfold good1
  simp [failed, three, same]

theorem Channel.good1_counts {c : Channel} (failed : c.fault = true) (short : c.good < 2) (v : Int) :
    c.good1 v = { c with bad := 0, good := min 3 (c.good + 1) } := by
  have fewer : saturate c.good 3 ≠ 3 := by
    unfold saturate
    omega
  unfold good1
  simp [failed, fewer]
  rfl

/-- One conversion result works a channel by its raw range. -/
theorem Channel.sampled_sample {role : Role} {first : Bool} {lo hi : Int}
    (range : ∀ v, plausible role first v = true ↔ lo ≤ v ∧ v ≤ hi) (r : Conversion) (c : Channel) :
    sampled lo hi r c (c.sample role first r) := by
  refine ⟨fun v hr above below => ?_, fun outside => ?_⟩
  · subst hr
    rw [c.sample_good ((range v).mpr ⟨above, below⟩)]
    cases failed : c.fault
    · have well : c.good1 v = { c with
          bad := 0, good := min 3 (c.good + 1), filtered := (c.good1 v).filtered } := by
        simp [good1, failed, saturate]
      refine ⟨by rw [well], by rw [well], fun _ => ⟨by rw [well]; exact failed, ?_⟩,
        fun h => Bool.noConfusion h, fun h => Bool.noConfusion h⟩
      cases h : c.filtered <;> simp [good1, failed, h]
    · rcases Nat.lt_or_ge c.good 2 with short | long
      · rw [good1_counts failed short]
        exact ⟨rfl, rfl, fun h => Bool.noConfusion h, fun _ long => absurd short (by omega),
          fun _ _ => ⟨failed, rfl⟩⟩
      · rw [good1_ends failed long]
        exact ⟨rfl, rfl, fun h => Bool.noConfusion h, fun _ _ => ⟨rfl, rfl⟩,
          fun _ short => absurd short (by omega)⟩
  · have bad (v : Int) (hr : r = .value v) : plausible role first v = false := by
      refine Bool.eq_false_iff.mpr fun h => ?_
      obtain ⟨above, below⟩ := (range v).mp h
      rcases outside v hr with k | k <;> omega
    rw [c.sample_bad bad]
    refine ⟨rfl, rfl, rfl, ?_⟩
    have five : (saturate c.bad 5 == 5) = decide (4 ≤ c.bad) := by
      unfold saturate
      rw [Bool.eq_iff_iff]
      simp
    show (c.fault || saturate c.bad 5 == 5) = _
    rw [five]

theorem plausible_zone_first (v : Int) : plausible .zone true v = true ↔ 0 ≤ v ∧ v ≤ 600 := by
  simp [plausible]

theorem plausible_zone_second (v : Int) : plausible .zone false v = true ↔ 0 ≤ v ∧ v ≤ 1000 := by
  simp [plausible]

theorem plausible_plant (first : Bool) (v : Int) :
    plausible .plant first v = true ↔ -300 ≤ v ∧ v ≤ 850 := by
  simp [plausible]

/-! ### The conditions (R143) -/

theorem usable_filtered {c : Channel} {x : Int} (h : c.filtered = some x) : c.filtered.getD 0 = x := by
  rw [h]
  rfl

namespace State
variable {s : State}

/-! ### Several triggers at once (R107) -/

theorem plantTriggers_plantsOn (changes : List Bool) (s : State) : s.plantsOn (s.plantTriggers changes) := by
  induction changes generalizing s with
  | nil => exact s.plantsOn_refl
  | cons c rest ih => exact (andIf_plantsOn plantTrigger_plantsOn s c).trans (ih _)

theorem plantTriggers_cons (c : Bool) (rest : List Bool) (s : State) :
    s.plantTriggers (c :: rest) = (s.andIf c plantTrigger).plantTriggers rest := rfl

theorem plantTriggers_told (changes : List Bool) (s : State) (plant : s.role = .plant)
    (some : 1 ≤ changes.count true) : toldPlant s (s.plantTriggers changes) := by
  induction changes with
  | nil => simp at some
  | cons c rest ih =>
    rw [plantTriggers_cons]
    cases c
    · exact ih (by simpa using some)
    · exact toldPlant_after (s.plantTrigger_told plant) (plantTriggers_plantsOn rest _)

theorem plantTriggers_none (changes : List Bool) (s : State) (none : changes.count true = 0) :
    s.plantTriggers changes = s := by
  induction changes with
  | nil => rfl
  | cons c rest ih =>
    rw [plantTriggers_cons]
    cases c
    · exact ih (by simpa using none)
    · simp at none

/-- From rest, the first trigger begins a reckoning and a second sets its mark. -/
theorem plantTriggers_mark (changes : List Bool) (s : State) (plant : s.role = .plant)
    (grounded : s.plant.flight = none) : (s.plantTriggers changes).plant.mark =
      (s.plant.mark || decide (2 ≤ changes.count true)) := by
  induction changes with
  | nil => simp [plantTriggers]
  | cons c rest ih =>
    rw [plantTriggers_cons]
    cases c
    · simpa using ih
    · have begins : s.plantTrigger = s.beginPlant := by
        unfold plantTrigger
        rw [plant, grounded]
      have any : rest.any id = decide (1 ≤ rest.count true) := by
        rw [Bool.eq_iff_iff]
        simp [List.one_le_count_iff]
      rw [andIf_true, begins, plantTriggers_flying rest s.beginPlant plant rfl]
      show (s.plant.mark || rest.any id) = _
      rw [any, List.count_cons_self]
      simp

/-- The part after a sample expiry, its channels worked and not yet handed over. -/
def sampledTo (s : State) (d : Nat) (a b : Conversion) : State := { s with
  now := max s.now d
  sensing := { s.sensing with
    sample := .running (max s.now d + 2000)
    first := s.sensing.first.sample s.role true a
    second := s.sensing.second.sample s.role false b } }

theorem exec_sample {d : Nat} (held : s.held = false) (timer : s.sensing.sample = .running d)
    (a b : Conversion) :
    exec (.sampleTimerExpiry a b) s = .next ((s.sampledTo d a b).handOver (s.reach d)) := by
  show Host.Outcome.next _ = _
  rw [timer, s.takeExpiry_running d _ held]
  rfl

theorem handOver_zone (zone : s.role = .zone) (old : State) :
    s.handOver old = (s.recompute old).promptFlags old := by
  unfold handOver
  rw [zone]

/-- The state whose protection conditions are worked from its channels. -/
def conditioned (s : State) : State :=
  s.onPlant fun p => { p with prot := p.prot.conditions s.sensing.first s.sensing.second }

theorem handOver_plant (plant : s.role = .plant) (old : State) :
    s.handOver old =
      (s.conditioned.plantTriggers (s.conditioned.conditionChanges old)).promptFlags old := by
  unfold handOver
  split
  next zone => exact Role.noConfusion (plant.symm.trans zone)
  next => rfl

/-- A prompt leaves the plant block but for the announcer. -/
theorem plant_of_sameBut {a : List Item} {t : State} (h : s.sameBut a t)
    (ha : ∀ i ∈ [Item.plantFlight, .sequencer, .plantTimer, .unplaced], i ∉ a) :
    t.plant = { s.plant with announcer := t.plant.announcer } := by
  obtain ⟨flight, mark⟩ := h.of_not_mem (ha .plantFlight (by decide))
  obtain ⟨arb, air, prot⟩ := h.of_not_mem (ha .sequencer (by decide))
  have timer : _ = _ := h.of_not_mem (ha .plantTimer (by decide))
  have unplaced : _ = _ := h.of_not_mem (ha .unplaced (by decide))
  cases ht : t.plant
  cases hs : s.plant
  simp_all

/-- Only the blocks that a hand-over reaches differ. -/
theorem frame_of_handOver {a : List Item} {t : State} (h : s.sameBut a t)
    (ha : a ⊆ [.clock, .sample, .channels, .contacts, .demand, .shareFlight, .wire, .announcer, .sequencer,
      .plantFlight]) : t = { s with
      now := t.now, sensing := t.sensing, demand := t.demand, share := t.share
      plant := t.plant, line := t.line } := by
  refine eq_of_same fun i => ?_
  have other := (h.mono ha).of_not_mem (i := i)
  cases i
  case fixed | station | stationTimers | aging | roster | waits | memberLatches | restarts
      | setpoints | drive | responder =>
    exact other (by decide)
  all_goals simp [Item.same]

end State

open State in
/-- The plant's part of O27. -/
theorem plantSample_handed {s : State} {d : Nat} (held : s.held = false)
    (timer : s.sensing.sample = .running d) (plant : s.role = .plant) (a b : Conversion) : ∃ t,
    exec (.sampleTimerExpiry a b) s = .next t ∧
      t.sensing = (s.sampledTo d a b).sensing ∧
      t.plant.prot = s.plant.prot.conditions t.sensing.first t.sensing.second ∧
      (1 ≤ ((s.sampledTo d a b).conditioned.conditionChanges s).count true → toldPlant s t) ∧
      (s.plant.flight = none → t.plant.mark = (s.plant.mark ||
        decide (2 ≤ ((s.sampledTo d a b).conditioned.conditionChanges s).count true))) ∧
      (((s.sampledTo d a b).conditioned.conditionChanges s).count true = 0 → t.plant = { s.plant with
        prot := t.plant.prot, announcer := t.plant.announcer }) ∧
      t.share = s.share := by
  set v := s.sampledTo d a b with hv
  set changes := v.conditioned.conditionChanges s with hc
  set w := v.conditioned.plantTriggers changes with hw
  have run : exec (.sampleTimerExpiry a b) s = .next (w.promptFlags (s.reach d)) := by
    rw [exec_sample held timer, handOver_plant (s := s.sampledTo d a b) plant]
    rfl
  have prompts := w.promptFlags_changes (s.reach d)
  obtain ⟨f, m, frame⟩ := v.conditioned.plantTriggers_frame changes
  rw [← hw] at frame
  have block : (w.promptFlags (s.reach d)).plant =
      { w.plant with announcer := (w.promptFlags (s.reach d)).plant.announcer } :=
    plant_of_sameBut prompts (by decide)
  have sensing : (w.promptFlags (s.reach d)).sensing = v.sensing := by
    refine (sensing_of_sameBut prompts (by decide)).trans ?_
    rw [frame]
    rfl
  refine ⟨_, run, sensing, ?_, fun some => ?_, fun grounded => ?_, fun none => ?_, ?_⟩
  · rw [sensing, block, frame]
    rfl
  · have told := v.conditioned.plantTriggers_told changes plant some
    exact toldPlant_of_flight (u := v.conditioned) rfl
      (toldPlant_after told (plantsOn_of_sameBut prompts (by decide)))
  · rw [block]
    exact v.conditioned.plantTriggers_mark changes plant grounded
  · rw [block]
    rw [hw, plantTriggers_none changes _ none]
    rfl
  · refine (share_of_sameBut prompts (by decide) (by decide)).trans ?_
    rw [frame]
    rfl

/-! ### The conditions worked (R143) -/

/-- What the coil channel makes of the coil's conditions. -/
theorem Protection.conditions_coil (p : Protection) {coil : Channel} (supply : Channel) :
    (∀ c, coil.usable = true → coil.filtered = some c →
      ((p.conditions coil supply).coilCold = true ↔ c ≤ 10 ∨ (p.coilCold = true ∧ c < 40)) ∧
      ((p.conditions coil supply).coilFrozen = true ↔ c ≤ -20) ∧
      ((p.conditions coil supply).coilThawed = true ↔ 50 ≤ c)) ∧
    (coil.usable = false → (p.conditions coil supply).coilCold = false ∧
      (p.conditions coil supply).coilFrozen = false ∧ (p.conditions coil supply).coilThawed = false) := by
  refine ⟨fun c usable filtered => ?_, fun off => ?_⟩
  · simp [conditions, usable, filtered]
  · simp [conditions, off]

theorem Protection.conditions_supply (p : Protection) (coil : Channel) {supply : Channel} :
    (∀ c, supply.usable = true → supply.filtered = some c →
      ((p.conditions coil supply).supplyHot = true ↔ 550 ≤ c ∨ (p.supplyHot = true ∧ 500 < c))) ∧
    (supply.usable = false → (p.conditions coil supply).supplyHot = false) := by
  refine ⟨fun c usable filtered => ?_, fun off => ?_⟩
  · simp [conditions, usable, filtered]
  · simp [conditions, off]

open State in
/-- Settles O27: each channel is worked by its range, and each change is told. -/
theorem sampleExpiryWorksBothChannels : Obligations.SampleExpiryWorksBothChannels := by
  refine ⟨fun s a b d held timer _ => ?_, fun s a b d held timer zone => ?_,
    fun s a b d held timer plant => ?_⟩
  · set v := s.sampledTo d a b with hv
    have run := exec_sample held timer a b
    have handed := v.handOver_changes (s.reach d)
    have sensing : (v.handOver (s.reach d)).sensing = v.sensing := sensing_of_sameBut handed (by decide)
    have first := congrArg Sensing.first sensing
    have second := congrArg Sensing.second sensing
    refine ⟨_, run, fun zone => ?_, fun plant => ?_, ?_, ?_⟩
    · rw [first, second, hv]
      unfold sampledTo
      rw [zone]
      exact ⟨Channel.sampled_sample plausible_zone_first a _, Channel.sampled_sample plausible_zone_second b _⟩
    · rw [first, second, hv]
      unfold sampledTo
      rw [plant]
      exact ⟨Channel.sampled_sample (plausible_plant true) a _,
        Channel.sampled_sample (plausible_plant false) b _⟩
    · rw [first, second, sensing]
      rfl
    · have now : (v.handOver (s.reach d)).now = max s.now d := handed.of_not_mem (i := .clock) (by decide)
      have frame := frame_of_handOver (exec_changes rfl run) (by decide)
      rwa [now] at frame
  · set v := s.sampledTo d a b with hv
    have run := exec_sample held timer a b
    rw [handOver_zone (s := s.sampledTo d a b) zone, ← hv] at run
    have prompts := (v.recompute (s.reach d)).promptFlags_changes (s.reach d)
    refine ⟨_, run, recomputed_of_sameBut prompts (by decide) (v.recompute_recomputed _),
      evaluated_of_sameBut prompts (by decide) (v.recompute_evaluated (s.reach d)), ?_⟩
    have told : shareToldOfDemand (s.reach d) (v.recompute (s.reach d)) :=
      evaluate_toldOfDemand (s := v.formed) (old := s.reach d) rfl
    have demand : _ = _ := prompts.of_not_mem (i := .demand) (by decide)
    have share := share_of_sameBut prompts (by decide) (by decide)
    unfold shareToldOfDemand at told ⊢
    rw [demand]
    exact ⟨fun h => toldShare_of_share_eq rfl share (told.1 h),
      fun h1 h2 h3 => share.trans (told.2 h1 h2 h3)⟩
  · obtain ⟨t, run, sensing, prot, told, mark, still, share⟩ := plantSample_handed held timer plant a b
    obtain ⟨coil, coilOff⟩ := s.plant.prot.conditions_coil (coil := t.sensing.first) t.sensing.second
    obtain ⟨supply, supplyOff⟩ := s.plant.prot.conditions_supply t.sensing.first (supply := t.sensing.second)
    refine ⟨t, run, ?_, ?_, ?_, ?_, fun changes hc => ?_, ?_, share⟩
    · rw [prot]
      exact coil
    · rw [prot]
      exact coilOff
    · rw [prot]
      exact supply
    · rw [prot]
      exact supplyOff
    · have same : changes = (s.sampledTo d a b).conditioned.conditionChanges s := by
        rw [hc, prot, sensing]
        rfl
      rw [same]
      exact ⟨told, mark, still⟩
    · rw [prot]
      rfl

end Sys2Proof.Machine
end

section
/-! PROOF. The plant timer: the slew, the boost and the reckoning it triggers (R105, R131, R135, R150). -/

namespace Sys2Proof.Machine

namespace State
variable {s t : State}

/-! ### In the plant role an announcement leaves the demand unit -/

theorem onAnnouncer_demand (plant : s.role = .plant) (f : Announcer → Announcer) :
    (s.onAnnouncer f).demand = s.demand := by
  unfold onAnnouncer
  rw [plant]
  rfl

theorem promptCause_demand (plant : s.role = .plant) : s.promptCause.demand = s.demand := by
  have placed : s.placeAnnouncement.demand = s.demand := by
    unfold placeAnnouncement
    split_ifs
    · exact onAnnouncer_demand plant _
    · obtain ⟨l, h⟩ := s.placePeriodic_frame (ownKind s.role) 0
      rw [h]
      exact onAnnouncer_demand (by exact plant) _
  unfold promptCause
  split_ifs
  · rfl
  · rfl
  · exact onAnnouncer_demand plant _
  · exact onAnnouncer_demand plant _
  · exact placed

theorem tellStatus_demand (plant : s.role = .plant) (old : Plant) : (s.tellStatus old).demand = s.demand := by
  unfold tellStatus
  rcases s.andIf_cases _ promptCause with ⟨-, h⟩ | ⟨-, h⟩ <;> rw [h]
  exact promptCause_demand plant

/-! ### The own record (R125, R137) -/

/-- The plant record is made from the sequencer, the channels and the table. -/
theorem plantRecord_of_sameBut {a : List Item} (h : s.sameBut a t)
    (ha : ∀ i ∈ [Item.fixed, .channels, .roster], i ∉ a) (arb : t.plant.arb = s.plant.arb)
    (air : t.plant.air = s.plant.air) (phases : t.plant.phases = s.plant.phases) :
    t.plantRecord = s.plantRecord := by
  obtain ⟨-, role, -, cfg, -⟩ := h.of_not_mem (ha .fixed (by decide))
  obtain ⟨first, second⟩ := h.of_not_mem (ha .channels (by decide))
  obtain ⟨table, -⟩ := h.of_not_mem (ha .roster (by decide))
  unfold plantRecord plantFlags twoPlants
  rw [arb, air, phases, cfg, first, second, table, role]

/-! ### The two steps (R131, R150) -/

theorem slewed_eq (slew qt qb : Nat) :
    slewed slew qt qb = if qb < qt then min qt (qb + slew) else max qt (qb - slew) := by
  unfold slewed
  split_ifs <;> omega

/-- The blower at one slew step. -/
def slewedAir (s : State) : Air :=
  if slewed s.cfg.slew s.plant.air.qt s.plant.air.qb = s.plant.air.qb then s.plant.air
  else s.plant.air.setQb s.cfg (slewed s.cfg.slew s.plant.air.qt s.plant.air.qb)

theorem slewedAir_qb (s : State) :
    s.slewedAir.qb = slewed s.cfg.slew s.plant.air.qt s.plant.air.qb := by
  unfold slewedAir
  split_ifs with h
  · exact h.symm
  · rfl

theorem slewedAir_keeps (s : State) : s.slewedAir.qt = s.plant.air.qt ∧ s.slewedAir.kc = s.plant.air.kc := by
  unfold slewedAir
  split_ifs <;> exact ⟨rfl, rfl⟩

theorem slewedAir_fan (h : s.slewedAir.qb ≠ s.plant.air.qb) :
    s.slewedAir.fanOut = s.slewedAir.qb * 100 / s.cfg.qmax := by
  rw [slewedAir_qb] at h
  unfold slewedAir
  rw [if_neg h]
  rfl

theorem slewedAir_stands (h : s.slewedAir.qb = s.plant.air.qb) : s.slewedAir = s.plant.air := by
  rw [slewedAir_qb] at h
  exact if_pos h

/-- The slew tells the share unit exactly of a changed Qb. -/
theorem slewStep_eq (s : State) : s.slewStep =
    ((s.onPlant fun p => { p with air := s.slewedAir }).andIf (s.slewedAir.qb != s.plant.air.qb)
      shareTrigger).tellStatus s.plant := by
  have air : (if (slewed s.cfg.slew s.plant.air.qt s.plant.air.qb == s.plant.air.qb) = true
      then s.plant.air else s.plant.air.setQb s.cfg (slewed s.cfg.slew s.plant.air.qt s.plant.air.qb)) =
      s.slewedAir := by
    unfold slewedAir
    simp only [beq_iff_eq]
  have told : (s.onPlant fun p => { p with air := s.slewedAir }).tellShare s.plant =
      (s.onPlant fun p => { p with air := s.slewedAir }).andIf (s.slewedAir.qb != s.plant.air.qb)
        shareTrigger := by
    unfold tellShare
    simp
  rw [← told, ← air]
  rfl

/-- The protection at one boost step. -/
def boostedProt (p : Protection) : Protection :=
  { p with boost := if p.highLimit then min 5 (p.boost + 1) else p.boost }

theorem boostStep_eq (s : State) : s.boostStep = s.onPlant fun p => { p with prot := boostedProt p.prot } := by
  unfold boostStep
  by_cases hot : s.plant.prot.highLimit = true
  · have counts : boostedProt s.plant.prot =
        { s.plant.prot with boost := saturate s.plant.prot.boost 5 } := by
      unfold boostedProt
      rw [if_pos hot]
      rfl
    rw [hot, andIf_true]
    show _ = { s with plant := { s.plant with prot := boostedProt s.plant.prot } }
    rw [counts]
    rfl
  · have same : boostedProt s.plant.prot = s.plant.prot := by
      unfold boostedProt
      rw [if_neg hot]
    rw [Bool.eq_false_iff.mpr hot, andIf_false]
    show _ = { s with plant := { s.plant with prot := boostedProt s.plant.prot } }
    rw [same]

/-- The blower slewed, the timer started again, the boost not yet counted. -/
def slewedTo (s : State) (d : Nat) : State :=
  ({ s with now := max s.now d, plant := { s.plant with timer := .running (max s.now d + 5000) } } : State).slewStep

theorem exec_plantTimer {d : Nat} (held : s.held = false) (timer : s.plant.timer = .running d) :
    exec .plantTimerExpiry s = .next (s.slewedTo d).boostStep.plantTrigger := by
  show Host.Outcome.next _ = _
  rw [timer, s.takeExpiry_running d _ held]
  rfl

/-- What the slew leaves of the part. -/
structure slewsTo (s v : State) (d : Nat) : Prop where
  plant : v.plant = { s.plant with
    timer := .running (max s.now d + 5000), air := s.slewedAir, announcer := v.plant.announcer }
  told : s.slewedAir.qb ≠ s.plant.air.qb → toldShare s v
  still : s.slewedAir.qb = s.plant.air.qb → v.share = s.share
  source : s.share.flight = none → ∀ f, v.share.flight = some f → f.snapshot.source = some v.plantRecord
  changes : s.sameBut [.clock, .plantTimer, .sequencer, .shareFlight, .wire, .announcer] v
  demand : v.demand = s.demand
  now : v.now = max s.now d

theorem shareTrigger_source (plant : s.role = .plant) (grounded : s.share.flight = none) {f : ShareFlight}
    (flies : s.shareTrigger.share.flight = some f) : f.snapshot.source = some s.plantRecord := by
  unfold shareTrigger at flies
  rw [grounded] at flies
  obtain rfl := Option.some.inj flies
  show (shareSnapshot s).source = _
  unfold shareSnapshot
  simp only [plant]

theorem slewedTo_slews (plant : s.role = .plant) (d : Nat) : s.slewsTo (s.slewedTo d) d := by
  set u : State := { s with
    now := max s.now d, plant := { s.plant with timer := .running (max s.now d + 5000) } } with hu
  set w := u.onPlant fun p => { p with air := u.slewedAir } with hw
  set x := w.andIf (u.slewedAir.qb != u.plant.air.qb) shareTrigger with hx
  have slews : s.slewedTo d = x.tellStatus u.plant := u.slewStep_eq
  have same : u.slewedAir = s.slewedAir := rfl
  have shared : w.sameBut [.shareFlight] x := sameBut_andIf (fun u => u.shareTrigger_changes) _ _
  have status := x.tellStatus_changes u.plant
  rw [← slews] at status
  have all : w.sameBut [.shareFlight, .wire, .announcer] (s.slewedTo d) :=
    (shared.mono (by decide)).trans (status.mono (by decide))
  have share := share_of_sameBut status (by decide) (by decide)
  obtain ⟨-, role, -⟩ := shared.of_not_mem (i := .fixed) (by decide)
  have demand : x.demand = s.demand := by
    rcases w.andIf_cases (u.slewedAir.qb != u.plant.air.qb) shareTrigger with ⟨-, h⟩ | ⟨-, h⟩ <;> rw [hx, h]
    · obtain ⟨f, m, k⟩ := w.shareTrigger_frame
      rw [k]
      rfl
    · rfl
  exact {
    plant := plant_of_sameBut all (by decide)
    told := fun changed => by
      have on : (u.slewedAir.qb != u.plant.air.qb) = true := bne_iff_ne.mpr changed
      rw [hx, on, andIf_true] at share
      exact toldShare_of_share_eq rfl share w.shareTrigger_told
    still := fun stands => by
      have off : (u.slewedAir.qb != u.plant.air.qb) = false := bne_eq_false_iff_eq.mpr stands
      rw [hx, off, andIf_false] at share
      exact share
    source := fun grounded f flies => by
      have record : (s.slewedTo d).plantRecord = w.plantRecord := by
        have block := plant_of_sameBut all (by decide)
        refine plantRecord_of_sameBut all (by decide) ?_ ?_ ?_
        · rw [block]
        · rw [block]
        · unfold Plant.phases
          rw [block]
      rw [share] at flies
      rw [record]
      rcases w.andIf_cases (u.slewedAir.qb != u.plant.air.qb) shareTrigger with ⟨-, h⟩ | ⟨-, h⟩ <;>
        rw [hx, h] at flies
      · exact shareTrigger_source (s := w) plant grounded flies
      · exact absurd (grounded.symm.trans flies) (by simp)
    changes := by
      have first : s.sameBut [.clock, .plantTimer, .sequencer] w := by
        intro i
        cases i <;> simp [Item.same, w, u]
      exact (first.mono (by decide)).trans (all.mono (by decide))
    demand := by
      rw [slews]
      exact (tellStatus_demand (role.trans plant) _).trans demand
    now := all.of_not_mem (i := .clock) (by decide) }

/-- A triggered reckoning begins on the own record, the protection and the table that then stand. -/
theorem plantTrigger_source (plant : s.role = .plant) (grounded : s.plant.flight = none) {g : PlantFlight}
    (flies : s.plantTrigger.plant.flight = some g) :
    g.own = s.plantTrigger.plantRecord ∧ g.prot = s.plantTrigger.plant.prot ∧ g.entries = s.member.table := by
  have begins : s.plantTrigger = s.beginPlant := by
    unfold plantTrigger
    rw [plant, grounded]
  rw [begins] at flies ⊢
  obtain rfl := Option.some.inj flies
  exact ⟨rfl, rfl, rfl⟩

/-- What a plant timer changes of the part, said as the whole next state. -/
theorem frame_of_plantTimer {now : Nat} {a : List Item} (ha : touches .plantTimerExpiry = some a) (changes : s.sameBut a t)
    (demand : t.demand = s.demand) (clock : t.now = now) :
    t = { s with now := now, plant := t.plant, share := t.share, line := t.line } := by
  obtain rfl := Option.some.inj ha
  refine eq_of_same fun i => ?_
  have other := changes.of_not_mem (i := i)
  cases i
  case fixed | station | stationTimers | aging | roster | waits | memberLatches | restarts | channels
      | contacts | sample | setpoints | drive | responder =>
    exact other (by decide)
  all_goals simp [Item.same, demand, clock]

end State

open State in
/-- Settles O41: the slew, the boost and the trigger, one after the other. -/
theorem plantTimerSlewsTheBlower : Obligations.PlantTimerSlewsTheBlower := by
  intro s d held plant timer
  have run := exec_plantTimer held timer
  obtain ⟨block, told, still, source, slews, demand, now⟩ := s.slewedTo_slews plant d
  generalize s.slewedTo d = v at run block told still source slews demand now
  have changes := exec_changes rfl run
  rw [boostStep_eq] at run changes
  set w := v.onPlant fun p => { p with prot := boostedProt p.prot } with hw
  have role : w.role = .plant := (slews.of_not_mem (i := .fixed) (by decide)).2.1.trans plant
  obtain ⟨f, m, frame⟩ := w.plantTrigger_frame
  have air : w.plantTrigger.plant.air = s.slewedAir := by
    rw [frame]
    show v.plant.air = _
    rw [block]
  have share : w.plantTrigger.share = v.share := by rw [frame]; rfl
  have phases : w.plant.phases = v.plant.phases := rfl
  have record : w.plantRecord = v.plantRecord := rfl
  have record' : w.plantTrigger.plantRecord = w.plantRecord := by rw [frame]; rfl
  obtain ⟨qt, kc⟩ := s.slewedAir_keeps
  refine ⟨_, run, ?_, ?_, fun changed => ?_, fun stands => ?_, ?_, ?_, ?_, ?_, ?_, fun grounded g flies => ?_,
    fun grounded g flies => ?_, ?_⟩
  · rw [frame]
    show v.plant.timer = _
    rw [block]
  · rw [air, slewedAir_qb, slewed_eq]
  · rw [air] at changed ⊢
    exact ⟨slewedAir_fan changed, toldShare_of_share_eq rfl share (told changed)⟩
  · rw [air] at stands ⊢
    exact ⟨slewedAir_stands stands, share.trans (still stands)⟩
  · rw [air, qt]
  · rw [air, kc]
  · rw [frame]
    show boostedProt v.plant.prot = _
    rw [block]
    rfl
  · refine toldPlant_of_flight (u := w) ?_ (w.plantTrigger_told role)
    show v.plant.flight = _
    rw [block]
  · rw [frame]
    show v.plant.arb = _
    rw [block]
  · have grounded' : w.plant.flight = none := by
      show v.plant.flight = _
      rw [block]
      exact grounded
    obtain ⟨own, prot, entries⟩ := plantTrigger_source role grounded' flies
    exact ⟨own, prot, entries.trans (slews.of_not_mem (i := .roster) (by decide)).1⟩
  · rw [share] at flies
    rw [record', record]
    exact source grounded g flies
  · exact frame_of_plantTimer rfl changes (by rw [frame]; exact demand) (by rw [frame]; exact now)

end Sys2Proof.Machine
end

section
/-! PROOF. The end of a plant reckoning: what it leaves of the plant, and the protection phases (R125,
R142 to R154). -/

namespace Sys2Proof.Machine

namespace State
variable {s t : State} {f : PlantFlight}

/-! ### What a reckoning's end leaves (R107, R125) -/

/-- The plant that a valid reckoning's end works. -/
def worked (s : State) (f : PlantFlight) : Plant :=
  s.plant.afterReckoning f s.cfg (s.member.station == .online) s.timer

theorem exec_plantEnd (held : s.held = false) (flies : s.plant.flight = some f)
    (computing : f.phase = .computing) :
    exec .plantReckoningEnd s = .next ((s.reach f.due).endPlant f) := by
  show Host.Outcome.next (s.take plantEnds) = _
  rw [s.take_running _ held]
  unfold plantEnds
  rw [flies]
  simp only [computing, beq_self_eq_true, if_true]

theorem closePlant_flight (s : State) (mark : Bool) :
    (s.closePlant mark).plant.mark = false ∧ (s.closePlant mark).plant.flight.isSome = mark := by
  unfold closePlant
  cases mark
  · exact ⟨rfl, rfl⟩
  · exact ⟨rfl, rfl⟩

/-- What the plant's end tells the other blocks leaves its own. -/
theorem endPlant_worked (valid : f.void = false) :
    (s.endPlant f).plant.arb = (s.worked f).arb ∧ (s.endPlant f).plant.air = (s.worked f).air ∧
    (s.endPlant f).plant.prot = (s.worked f).prot ∧ (s.endPlant f).plant.mark = false ∧
    (s.endPlant f).plant.flight.isSome = (s.worked f).markAfter s.plant := by
  have ended : s.endPlant f = ((({ s with plant := s.worked f } : State).tellShare s.plant).tellStatus
      s.plant).closePlant ((s.worked f).markAfter s.plant) := by
    unfold endPlant
    rw [valid]
    rfl
  set v : State := { s with plant := s.worked f } with hv
  have told : v.sameBut [.shareFlight, .wire, .announcer, .plantFlight] (s.endPlant f) := by
    rw [ended]
    exact (((tellShare_changes _ _).mono (by decide)).trans ((tellStatus_changes _ _).mono
      (by decide))).trans ((closePlant_changes _ _).mono (by decide))
  obtain ⟨arb, air, prot⟩ := told.of_not_mem (i := .sequencer) (by decide)
  have flight := closePlant_flight ((v.tellShare s.plant).tellStatus s.plant) ((s.worked f).markAfter s.plant)
  rw [← ended] at flight
  exact ⟨arb, air, prot, flight⟩

/-- The valid end, with its state named. -/
theorem exec_plantEnd_valid (held : s.held = false) (flies : s.plant.flight = some f)
    (computing : f.phase = .computing) (valid : f.void = false) :
    ∃ t, exec .plantReckoningEnd s = .next t ∧ t.plant.arb = ((s.reach f.due).worked f).arb ∧
      t.plant.air = ((s.reach f.due).worked f).air ∧ t.plant.prot = ((s.reach f.due).worked f).prot ∧
      t.plant.mark = false ∧ t.plant.flight.isSome = ((s.reach f.due).worked f).markAfter s.plant :=
  ⟨_, exec_plantEnd held flies computing, endPlant_worked valid⟩

/-! ### The parts of the plant worked -/

/-- The verdict of a reckoning (R109). -/
def verdict (s : State) (f : PlantFlight) : Verdict := judge s.cfg.margin f (sumsOf f.entries)

/-- The arbitration as its verdict leaves it. -/
def decided (s : State) (f : PlantFlight) : Arbitration :=
  s.plant.arb.apply (s.verdict f) s.timer (1000 * s.cfg.dwell)

/-- The protection from which the phases are worked: a mode entered starts the trip count afresh. -/
def entering (s : State) (f : PlantFlight) : Protection :=
  if (s.verdict f).entersMode then { s.plant.prot with tripCount := 0 } else s.plant.prot

theorem worked_arb : (s.worked f).arb =
    { (s.decided f).storeSums (sumsOf f.entries) with
      frostLockout := (s.decided f).frostLockout ||
        (tripBegins (s.decided f).mode f && (s.worked f).prot.tripCount == 3) } := rfl

theorem worked_mode : (s.worked f).arb.mode = (s.decided f).mode := rfl

theorem worked_prot : (s.worked f).prot = (s.entering f).work f (s.worked f).arb.mode s.timer
    (capacityToHold s.cfg f s.plant.air.kc) := rfl

theorem worked_air (s : State) (f : PlantFlight) : (s.worked f).air =
    s.plant.air.work s.cfg (s.member.station == .online)
    (s.worked f).arb.mode (s.worked f).phases (s.worked f).prot.heldCapacity
    ((s.worked f).prot.highLimit || !f.supplyUsable)
    (if (s.worked f).prot.highLimit then f.prot.boost else 0) f.entries := rfl

theorem entering_keeps (s : State) (f : PlantFlight) :
    (s.entering f).frostTimer = s.plant.prot.frostTimer ∧ (s.entering f).boost = s.plant.prot.boost ∧
    (s.entering f).overlong = s.plant.prot.overlong ∧
    (s.entering f).heldCapacity = s.plant.prot.heldCapacity := by
  unfold entering
  split_ifs <;> exact ⟨rfl, rfl, rfl, rfl⟩

end State

/-! ### The conditions of the phases (R144 to R154) -/

section
variable {m : PlantMode} {f : PlantFlight}

theorem coolSide_iff : m.coolSide = true ↔ m = .cool ∨ m = .dry := by
  cases m <;> simp [PlantMode.coolSide]

theorem guardSet_iff : guardSet m f = true ↔
    (m = .cool ∨ m = .dry) ∧ (f.prot.coilCold = true ∨ f.coilUsable = false) := by
  simp [guardSet, coolSide_iff]

theorem highLimitSet_iff : highLimitSet m f = true ↔
    m = .heat ∧ f.defrostActive = false ∧ f.prot.supplyHot = true := by
  simp only [highLimitSet, defrostStands, Bool.and_eq_true, Bool.not_eq_true', beq_iff_eq]
  constructor
  · rintro ⟨⟨rfl, inactive⟩, hot⟩
    exact ⟨rfl, by simpa using inactive, hot⟩
  · rintro ⟨rfl, inactive, hot⟩
    exact ⟨⟨rfl, by simpa using inactive⟩, hot⟩

theorem defrostStands_iff : defrostStands m f = true ↔ m = .heat ∧ f.defrostActive = true := by
  simp [defrostStands]

theorem tripBegins_iff : tripBegins m f = true ↔ m.coolSide = true ∧ f.prot.frostTimer = .expired ∧
    f.prot.coilFrozen = true ∧ f.prot.guard = true ∧ f.prot.trip = false := by
  simp [tripBegins, and_assoc]

theorem tripStands_iff : tripStands m f = true ↔ m.coolSide = true ∧ (tripBegins m f = true ∨
    (f.prot.trip = true ∧ tripEnds f = false)) := by
  simp [tripStands]

theorem tripEnds_iff : tripEnds f = true ↔ f.prot.trip = true ∧ f.prot.tripTimer = .expired ∧
    f.prot.coilThawed = true := by
  simp [tripEnds, and_assoc]

end

/-! ### The phases after the end -/

/-- Out of the cool side nothing of the frost protection stands (R149). -/
theorem Protection.work_warm {p : Protection} {f : PlantFlight} {m : PlantMode} {start : Nat → Timer}
    {capacity : Nat} (warm : m.coolSide = false) : (p.work f m start capacity).trip = false ∧
      (p.work f m start capacity).frostTimer = .stopped ∧
      (p.work f m start capacity).tripTimer = .stopped := by
  have guard : guardSet m f = false := by simp [guardSet, warm]
  have begins : tripBegins m f = false := by simp [tripBegins, warm]
  have stands : tripStands m f = false := by simp [tripStands, warm]
  refine ⟨stands, ?_, ?_⟩
  · show frostTimerAfter _ _ _ _ = _
    simp [frostTimerAfter, guard]
  · show (if tripBegins m f then _ else if tripStands m f then _ else _) = _
    simp [begins, stands]

/-- The frost timer runs on under a frozen coil and guard alone (R145). -/
theorem Protection.work_frostTimer {p : Protection} {f : PlantFlight} {m : PlantMode}
    {start : Nat → Timer} {capacity : Nat} {q : Protection} (hq : q = p.work f m start capacity) :
    ((q.guard = false ∨ f.prot.coilFrozen = false ∨ q.trip = true) → q.frostTimer = .stopped) ∧
    (q.guard = true → f.prot.coilFrozen = true → q.trip = false →
      (f.prot.frostTimer = .stopped → q.frostTimer = start Config.frostMs) ∧
      (f.prot.frostTimer.isRunning = true → q.frostTimer = p.frostTimer)) := by
  have guard : q.guard = guardSet m f := by rw [hq]; rfl
  have trip : q.trip = tripStands m f := by rw [hq]; rfl
  have timer : q.frostTimer = frostTimerAfter m f start p.frostTimer := by rw [hq]; rfl
  rw [guard, trip, timer]
  unfold frostTimerAfter
  refine ⟨fun off => if_pos (by rcases off with h | h | h <;> simp [h]), fun set frozen untripped => ?_⟩
  rw [if_neg (by simp [set, frozen, untripped])]
  refine ⟨fun stopped => by rw [stopped], fun runs => ?_⟩
  cases timer' : f.prot.frostTimer <;> simp_all [Timer.isRunning]

/-- The frost trip in the cool side: it begins, goes on or ends by what was noted (R145 to R148). -/
theorem Protection.work_trip {p : Protection} {f : PlantFlight} {m : PlantMode}
    {start : Nat → Timer} {capacity : Nat} {q : Protection} (hq : q = p.work f m start capacity)
    (cool : m.coolSide = true) :
    (f.prot.trip = false → f.prot.frostTimer = .expired → f.prot.coilFrozen = true →
      f.prot.guard = true →
      q.trip = true ∧ q.tripTimer = start Config.tripMs ∧ q.tripCount = min 3 (p.tripCount + 1) ∧
      tripBegins m f = true) ∧
    (f.prot.trip = false →
      (f.prot.frostTimer ≠ .expired ∨ f.prot.coilFrozen = false ∨ f.prot.guard = false) →
      q.trip = false ∧ q.tripCount = p.tripCount) ∧
    (f.prot.trip = true → q.tripCount = p.tripCount ∧
      (f.prot.tripTimer = .expired → f.prot.coilThawed = true →
        q.trip = false ∧ q.tripTimer = .stopped) ∧
      ((f.prot.tripTimer ≠ .expired ∨ f.prot.coilThawed = false) →
        q.trip = true ∧ q.tripTimer = p.tripTimer)) := by
  have trip : q.trip = tripStands m f := by rw [hq]; rfl
  have timer : q.tripTimer = if tripBegins m f then start Config.tripMs
      else if tripStands m f then p.tripTimer else .stopped := by rw [hq]; rfl
  have count : q.tripCount = if tripBegins m f then saturate p.tripCount 3 else p.tripCount := by
    rw [hq]; rfl
  rw [trip, timer, count]
  refine ⟨fun untripped expired frozen guard => ?_, fun untripped missing => ?_, fun tripped => ?_⟩
  · have begins : tripBegins m f = true := tripBegins_iff.mpr ⟨cool, expired, frozen, guard, untripped⟩
    rw [begins]
    exact ⟨tripStands_of_begins begins, rfl, rfl, rfl⟩
  · have begins : tripBegins m f = false := Bool.eq_false_iff.mpr fun h => by
      obtain ⟨-, expired, frozen, guard, -⟩ := tripBegins_iff.mp h
      rcases missing with hm | hm | hm
      · exact hm expired
      · exact absurd (frozen.symm.trans hm) (by simp)
      · exact absurd (guard.symm.trans hm) (by simp)
    simp [tripStands, begins, untripped]
  · have begins : tripBegins m f = false := by simp [tripBegins, tripped]
    refine ⟨by simp [begins], fun expired thawed => ?_, fun goesOn => ?_⟩
    · simp [tripStands, begins, tripEnds, expired, thawed]
    · have stands : tripStands m f = true :=
        tripStands_iff.mpr ⟨cool, .inr ⟨tripped, Bool.eq_false_iff.mpr fun h => by
          obtain ⟨-, expired, thawed⟩ := tripEnds_iff.mp h
          exact goesOn.elim (fun hm => hm expired) fun hm => absurd (thawed.symm.trans hm) (by simp)⟩⟩
      simp [begins, stands]

/-- The defrost phase: begun, gone on with, or over (R152 to R154). -/
theorem Protection.work_defrost {p : Protection} {f : PlantFlight} {m : PlantMode}
    {start : Nat → Timer} {capacity : Nat} {q : Protection} (hq : q = p.work f m start capacity) :
    (q.defrost = true → f.prot.defrost = false →
      q.overlong = start Config.overlongMs ∧ q.overlongFlag = false ∧ q.heldCapacity = some capacity) ∧
    (q.defrost = true → f.prot.defrost = true →
      q.overlong = p.overlong ∧ q.heldCapacity = p.heldCapacity ∧
      (q.overlongFlag = true ↔ f.prot.overlongFlag = true ∨ f.prot.overlong = .expired)) ∧
    (q.defrost = false → q.overlong = .stopped ∧ q.overlongFlag = false ∧ q.heldCapacity = none) := by
  have phase : q.defrost = defrostStands m f := by rw [hq]; rfl
  have timer : q.overlong = if defrostBegins m f then start Config.overlongMs
      else if defrostStands m f then p.overlong else .stopped := by rw [hq]; rfl
  have flag : q.overlongFlag = (defrostStands m f && f.prot.defrost &&
      (f.prot.overlongFlag || f.prot.overlong == .expired)) := by rw [hq]; rfl
  have capacity' : q.heldCapacity = if defrostBegins m f then some capacity
      else if defrostStands m f then p.heldCapacity else none := by rw [hq]; rfl
  rw [phase, timer, flag, capacity']
  unfold defrostBegins
  refine ⟨fun stands fresh => ?_, fun stands noted => ?_, fun ended => ?_⟩
  · simp [stands, fresh]
  · simp [stands, noted]
  · simp [ended]

/-- In the cool side a reckoning enters no mode (R114). -/
theorem judge_entersMode {margin : Nat} {f : PlantFlight} {w : Sums}
    (side : f.arb.mode = .cool ∨ f.arb.mode = .dry) : (judge margin f w).entersMode = false := by
  have gone : ∀ a, (judgeGone a).entersMode = false := fun a => by
    unfold judgeGone
    split <;> rfl
  have cool : (judgeCool margin f.arb w).entersMode = false := by
    unfold judgeCool
    split_ifs
    · rfl
    · exact gone _
    all_goals rfl
  have judged : judge margin f w = if (!f.online) = true then .stay false false
      else if (f.arb.mode != .lockout && (f.outdoorFault || f.arb.frostLockout)) = true then
        .lockout (lockoutCause f.outdoorFault f.arb.frostLockout f.arb.cause)
      else judgeCool margin f.arb w := by
    unfold judge
    rcases side with h | h <;> rw [h]
  rw [judged]
  split_ifs
  · rfl
  · rfl
  · exact cool

open State in
/-- Settles O45: each phase by its condition under the plant state that the verdict leaves. -/
theorem protectionFollowsItsConditions : Obligations.ProtectionFollowsItsConditions := by
  intro s f now held flies computing valid hnow
  obtain ⟨t, run, arb, air, prot, -, -⟩ := exec_plantEnd_valid held flies computing valid
  set v := s.reach f.due with hv
  have work : t.plant.prot = (v.entering f).work f t.plant.arb.mode v.timer
      (capacityToHold v.cfg f v.plant.air.kc) := by
    rw [prot, arb]
    exact worked_prot
  obtain ⟨keepsTimer, keepsBoost, keepsOverlong, keepsCapacity⟩ := v.entering_keeps f
  have timer : ∀ n, v.timer n = .running (now + n) := fun n => by rw [hnow]; rfl
  have frost := Protection.work_frostTimer work
  have defrost := Protection.work_defrost work
  refine ⟨t, run, ?_, fun notCool notDry => ?_, frost.1, fun guard frozen untripped => ?_,
    fun side cool => ?_, ?_, ?_, ?_, fun stands fresh => ?_, fun stands noted => ?_, defrost.2.2⟩
  · rw [work]
    exact guardSet_iff
  · rw [work]
    refine Protection.work_warm (Bool.eq_false_iff.mpr fun h => ?_)
    exact (coolSide_iff.mp h).elim notCool notDry
  · obtain ⟨starts, goesOn⟩ := frost.2 guard frozen untripped
    exact ⟨fun stopped => (starts stopped).trans (timer _),
      fun runs => (goesOn runs).trans keepsTimer⟩
  · have stays : v.entering f = s.plant.prot := by
      unfold entering
      rw [show v.verdict f = judge s.cfg.margin f (sumsOf f.entries) from rfl, judge_entersMode side]
      rfl
    rw [stays] at work
    obtain ⟨begins, spared, ends⟩ := Protection.work_trip work (coolSide_iff.mpr cool)
    refine ⟨fun untripped expired frozen guard => ?_, spared, ends⟩
    obtain ⟨trip, tripTimer, count, began⟩ := begins untripped expired frozen guard
    refine ⟨trip, tripTimer.trans (timer _), count, fun second => ?_⟩
    rw [arb, worked_arb]
    rw [arb] at began
    rw [prot, second] at count
    show ((v.decided f).frostLockout || (tripBegins (v.worked f).arb.mode f &&
      (v.worked f).prot.tripCount == 3)) = true
    rw [began, count]
    exact Bool.or_true _
  · rw [work]
    exact highLimitSet_iff
  · have high : t.plant.prot.highLimit = highLimitSet t.plant.arb.mode f := by rw [work]; rfl
    rw [high, work]
    exact congrArg (fun b => if highLimitSet t.plant.arb.mode f = true then b else 0) keepsBoost
  · rw [work]
    exact defrostStands_iff
  · obtain ⟨overlong, flag, capacity⟩ := defrost.1 stands fresh
    refine ⟨overlong.trans (timer _), flag, fun heat => capacity.trans ?_⟩
    unfold capacityToHold
    rw [heat]
    rfl
  · obtain ⟨overlong, capacity, flag⟩ := defrost.2.1 stands noted
    exact ⟨overlong.trans keepsOverlong,
      capacity.trans keepsCapacity, flag⟩

end Sys2Proof.Machine
end

section
/-! PROOF. The air and the capacity at the end of a plant reckoning (R126 to R135, R151). -/

namespace Sys2Proof.Machine

/-! ### The zones served (R69 to R71, R133) -/

/-- The zones served by a running mode, as their records hold them. -/
def servedRecords (entries : List Entry) (m : PlantMode) : List ZoneRecord :=
  (entries.filterMap Entry.freshZone).filter (servedUnder m)

theorem freshZones_eq (entries : List Entry) :
    freshZones entries = (entries.filterMap Entry.freshZone).map ZoneRecord.counted :=
  (countedZones_eq_freshZones entries).symm

theorem ownClaims_eq (entries : List Entry) (m : PlantMode) : ownClaims entries m =
    ((servedRecords entries m).map fun r => (r.qd * max r.demand 30 + 99) / 100).sum := by
  unfold ownClaims sumOver servedRecords
  rw [freshZones_eq, List.map_map]
  induction entries.filterMap Entry.freshZone with
  | nil => rfl
  | cons r rest ih =>
    have one : (claim m ∘ ZoneRecord.counted) r =
        if servedUnder m r then (r.qd * max r.demand 30 + 99) / 100 else 0 := by
      show claim m r.counted = _
      rw [← claimUnder_eq_claim]
      rfl
    rw [List.map_cons, List.sum_cons, ih, one, List.filter_cons]
    split_ifs
    · rw [List.map_cons, List.sum_cons]
    · exact Nat.zero_add _

theorem meanDemand_eq (entries : List Entry) (m : PlantMode) : meanDemand entries m =
    ((servedRecords entries m).map fun r => r.weight * r.demand).sum /
      ((servedRecords entries m).map ZoneRecord.weight).sum := by
  have zones : ((freshZones entries).filter fun z => served m z.wanted) =
      (servedRecords entries m).map ZoneRecord.counted := by
    rw [freshZones_eq, List.filter_map]
    refine congrArg (List.map _) (List.filter_congr fun r _ => ?_)
    exact (servesWanted_eq_served m r.wanted).symm
  unfold meanDemand
  rw [zones]
  generalize servedRecords entries m = zs
  cases zs with
  | nil => rfl
  | cons r rest => simp [sumOver, Function.comp_def, ZoneRecord.counted]

/-! ### The figures of an end (R126, R132, R135) -/

section
variable {a : Air} {c : Config.Product} {online : Bool} {mode : PlantMode} {ph : PhaseFlags}
  {held : Option Nat} {heatCap : Bool} {boost : Nat} {entries : List Entry} {b : Air}

theorem Air.work_figures (hb : b = a.work c online mode ph held heatCap boost entries) :
    b.qt = blowerTarget c online mode ph b.sp boost ∧
    b.qminEff = effectiveMinimum c mode ph.frostGuard ∧ b.sp = ownClaims entries mode ∧
    b.dw = meanDemand entries mode ∧ b.kc = capacityDemand c online mode ph held heatCap b.dw := by
  subst hb
  unfold Air.work
  extract_lets sp dw qt a1 a2
  split_ifs <;> exact ⟨rfl, rfl, rfl, rfl, rfl⟩

theorem Air.work_call (hb : b = a.work c online mode ph held heatCap boost entries) :
    b.call = decide (0 < b.kc) := by
  subst hb
  unfold Air.work
  extract_lets sp dw qt a1 a2
  split_ifs <;> rfl

theorem Air.work_outputs (hb : b = a.work c online mode ph held heatCap boost entries)
    (fan : a.fanOut = fanDemand c a.qb) :
    b.qb = (if b.qt = 0 then 0 else a.qb) ∧ (b.call = true ↔ 0 < b.kc) ∧ b.capOut = b.kc ∧
    b.fanOut = b.qb * 100 / c.qmax := by
  subst hb
  unfold Air.work
  extract_lets sp dw qt a1 a2
  by_cases still : qt = 0
  · rw [if_pos (beq_iff_eq.mpr still)]
    exact ⟨(if_pos still).symm, decide_eq_true_iff, rfl, rfl⟩
  · rw [if_neg (mt beq_iff_eq.mp still)]
    exact ⟨(if_neg still).symm, decide_eq_true_iff, rfl, fan⟩

end

/-! ### Target and capacity by the plant state (R127 to R130, R133, R134) -/

section
variable {c : Config.Product} {ph : PhaseFlags} {held : Option Nat} {heatCap : Bool} {sp boost dw : Nat}

theorem capacityDemand_held {m : PlantMode} (running : m.running = true) (started : ph.startHeld = false) :
    capacityDemand c true m ph held heatCap dw =
      if ph.frostTrip then 0 else if ph.defrost then held.getD 0 else if ph.runHeld then c.kmin
      else runningCapacity c m ph.frostGuard heatCap dw := by
  unfold capacityDemand
  rw [started]
  cases m <;> cases ph.frostTrip <;> simp_all [PlantMode.running]

theorem capacityDemand_changeover : capacityDemand c true .changeover ph held heatCap dw = 0 := rfl

theorem blowerTarget_heat (defrost : ph.defrost = false) : blowerTarget c true .heat ph sp boost =
    boosted c (if ph.runHeld then effectiveMinimum c .heat ph.frostGuard
      else clampNat sp (effectiveMinimum c .heat ph.frostGuard) c.qmax) boost := by
  unfold blowerTarget
  simp only [defrost, Bool.false_eq_true, if_false]
  split_ifs <;> rfl

theorem blowerTarget_cool : blowerTarget c true .cool ph sp boost =
    if ph.frostTrip = true ∨ ph.runHeld = true then effectiveMinimum c .cool ph.frostGuard
    else clampNat sp (effectiveMinimum c .cool ph.frostGuard) c.qmax := by
  simp only [blowerTarget, Bool.or_eq_true]

theorem blowerTarget_dry : blowerTarget c true .dry ph sp boost =
    if ph.frostTrip = true ∨ ph.runHeld = true then effectiveMinimum c .dry ph.frostGuard
    else clampNat (sp * 70 / 100) (effectiveMinimum c .dry ph.frostGuard) c.qmax := by
  simp only [blowerTarget, Bool.or_eq_true]

theorem blowerTarget_defrost (defrost : ph.defrost = true) : blowerTarget c true .heat ph sp boost =
    if ph.overlong then c.qminHeat else 0 := by
  unfold blowerTarget
  simp only [defrost]
  rfl

end

/-- In a running state no start is held, and what defrost and trip say of the state. -/
theorem Plant.running_phases {c : Config.Product} {p : Plant} (h : p.coherent c) :
    (p.arb.mode.running = true → p.phases.startHeld = false) ∧
    (p.arb.mode ≠ .heat → p.phases.defrost = false) ∧
    (p.arb.mode = .heat → p.phases.frostTrip = false) ∧
    (p.phases.defrost = true → some (p.prot.heldCapacity.getD 0) = p.prot.heldCapacity) := by
  obtain ⟨⟨-, startHeld, -⟩, ⟨-, trip, -, -, -, defrost, -, -, -, capacity, -⟩, -⟩ := h
  refine ⟨fun running => ?_, fun other => ?_, fun heat => ?_, fun phase => ?_⟩
  · refine Bool.eq_false_iff.mpr fun on => ?_
    rw [startHeld on] at running
    exact absurd running (by decide)
  · exact Bool.eq_false_iff.mpr fun on => other (defrost on)
  · refine Bool.eq_false_iff.mpr fun on => ?_
    have side := trip on
    rw [heat] at side
    exact absurd side (by decide)
  · obtain ⟨k, hk⟩ := Option.isSome_iff_exists.mp (capacity.trans phase)
    rw [hk]
    rfl

namespace State
variable {s : State} {f : PlantFlight}

/-- The plant worked by an online reckoning, its air worked from its state and phases. -/
theorem worked_online (h : s.PlantWf) (flies : s.plant.flight = some f) (valid : f.void = false)
    (online : f.online = true) : (s.worked f).coherent s.cfg ∧
      (s.worked f).air = s.plant.air.work s.cfg true (s.worked f).arb.mode (s.worked f).phases
        (s.worked f).prot.heldCapacity ((s.worked f).prot.highLimit || !f.supplyUsable)
        (if (s.worked f).prot.highLimit then f.prot.boost else 0) f.entries := by
  obtain ⟨coherent, -, -, flights⟩ := (plantWf_iff s).mp h
  have agrees := flights f flies
  obtain ⟨-, -, -, -, -, noted, -⟩ := agrees valid
  refine ⟨Plant.afterReckoning_coherent _ coherent valid agrees s.timer_isRunning, ?_⟩
  rw [worked_air, noted online]

end State

open State in
/-- Settles O44: the figures worked afresh, read off under each plant state. -/
theorem airAndCapacityFollowThePlantState : Obligations.AirAndCapacityFollowThePlantState := by
  intro s f zs low sp base held wf flies computing valid online
  obtain ⟨t, run, arb, air, prot, -, -⟩ := exec_plantEnd_valid held flies computing valid
  obtain ⟨coherent, work⟩ := worked_online (s := s.reach f.due) wf flies valid online
  obtain ⟨-, -, -, -, fan, -⟩ := ((plantWf_iff s).mp wf).1
  refine ⟨t, run, ?_⟩
  rw [arb, air, prot]
  generalize (s.reach f.due).worked f = p at work coherent
  rintro rfl rfl hsp rfl
  obtain ⟨started, warm, untripped, capacity⟩ := p.running_phases coherent
  obtain ⟨qt, low, claims, mean, kc⟩ := Air.work_figures work
  obtain ⟨qb, call, capOut, fanOut⟩ := Air.work_outputs work fan
  have claimed : p.air.sp = sp := (claims.trans (ownClaims_eq _ _)).trans hsp.symm
  rw [claimed] at qt
  have demand (running : p.arb.mode.running = true) := kc.trans (capacityDemand_held running (started running))
  refine ⟨claimed, mean.trans (meanDemand_eq _ _), fun heat => ?_, fun cool => ?_,
    fun dry => ?_, fun rests => ?_, fun purges => ?_, fun heat defrost => ?_, fun heat defrost => ?_,
    fun cool => ?_, fun dry => ?_, qb, call, capOut, fanOut⟩
  · rw [low, heat]
    rfl
  · rw [low, cool]
    rfl
  · rw [low, dry]
    rfl
  · rw [qt, kc]
    exact ⟨blowerTarget_resting _ _ _ _ _ rests, capacityDemand_resting _ _ _ _ _ _ rests⟩
  · rw [qt, kc, purges]
    exact ⟨rfl, rfl⟩
  · have holds : p.air.kc = p.prot.heldCapacity.getD 0 := by
      rw [demand (by rw [heat]; rfl), untripped heat]
      exact if_pos defrost
    rw [holds, qt, heat]
    exact ⟨blowerTarget_defrost defrost, capacity defrost⟩
  · constructor
    · rintro q b rfl rfl
      rw [qt, heat, blowerTarget_heat defrost, low, heat]
      rfl
    · have limited : (p.prot.highLimit || !f.supplyUsable) = decide (p.prot.highLimit = true ∨
          f.supplyUsable = false) := by simp
      have undefrosted : p.phases.defrost = false := defrost
      rw [demand (by rw [heat]; rfl), untripped heat, heat, undefrosted, limited]
      simp only [Bool.false_eq_true, if_false, runningCapacity, decide_eq_true_eq]
      rfl
  · rw [demand (by rw [cool]; rfl), warm (by rw [cool]; decide), qt, low, cool, blowerTarget_cool]
    exact ⟨rfl, rfl⟩
  · rw [demand (by rw [dry]; rfl), warm (by rw [dry]; decide), qt, low, dry, blowerTarget_dry]
    exact ⟨rfl, rfl⟩

end Sys2Proof.Machine
end

section
/-! PROOF. The transition of a plant reckoning (R109 to R123). -/

namespace Sys2Proof.Machine

/-! ### The weighted sums (R110) -/

theorem weightedSum_eq_wantedSum (entries : List Entry) (m : WantedMode) :
    weightedSum entries m = wantedSum entries m := by
  unfold weightedSum wantedSum sumOver
  rw [freshZones_eq, List.filter_map, List.map_map]
  rfl

/-! ### The tests (R109, R111, R113, R114, R120, R122) -/

theorem startTarget_some {w : Sums} (h : 20 ≤ w.hs ∨ 20 ≤ w.k) : startTarget w =
    some (if w.k ≤ w.hs ∧ 20 ≤ w.hs then .heat else if w.ys ≤ w.cs then .cool else .dry) := by
  unfold startTarget startThreshold
  simp only [Bool.and_eq_true, decide_eq_true_eq]
  by_cases heat : w.k ≤ w.hs ∧ 20 ≤ w.hs
  · rw [if_pos heat.symm, if_pos heat]
  · have pulls : 20 ≤ w.k := by omega
    rw [if_neg (by tauto), if_neg heat]
    by_cases cool : w.ys ≤ w.cs
    · rw [if_pos ⟨pulls, cool⟩, if_pos cool]
    · rw [if_neg (by tauto), if_pos ⟨pulls, by omega⟩, if_neg cool]

theorem startTarget_none {w : Sums} (heat : w.hs < 20) (cool : w.k < 20) : startTarget w = none := by
  unfold startTarget startThreshold
  simp only [Bool.and_eq_true, decide_eq_true_eq]
  rw [if_neg (by omega), if_neg (by omega), if_neg (by omega)]

section
variable {margin : Nat} {f : PlantFlight} {w : Sums} {a : Arbitration}

theorem judge_offline (offline : f.online = false) : judge margin f w = .stay false false := by
  simp [judge, offline]

theorem judge_lockout (online : f.online = true) (unlocked : f.arb.mode ≠ .lockout)
    (faulted : f.outdoorFault = true ∨ f.arb.frostLockout = true) : judge margin f w =
      .lockout (if f.outdoorFault then .outdoorFault else .frostLockout) := by
  rcases faulted with h | h <;> simp [judge, online, unlocked, h, lockoutCause]

theorem judge_locked (online : f.online = true) (locked : f.arb.mode = .lockout) :
    judge margin f w = judgeLockout f.outdoorFault f.arb := by
  simp [judge, online, locked]

theorem judgeLockout_remain {outdoor : Bool}
    (stands : outdoor = true ∨ a.frostLockout = true ∨ a.minOff ≠ .expired) :
    judgeLockout outdoor a = .remain (lockoutCause outdoor a.frostLockout a.cause) := by
  unfold judgeLockout
  rcases stands with h | h | h <;> simp [h]

theorem judgeGone_expired (expired : a.minOn = .expired) : judgeGone a = .stop := by
  unfold judgeGone
  rw [expired]

theorem judgeGone_running (runs : a.minOn.isRunning = true) : judgeGone a = .stay false true := by
  unfold judgeGone
  cases h : a.minOn <;> simp_all [Timer.isRunning]

theorem judgeLockout_release (frost : a.frostLockout = false) (ended : a.minOff = .expired) :
    judgeLockout false a = .release := by
  simp [judgeLockout, frost, ended]

section
variable (online : f.online = true) (outdoor : f.outdoorFault = false)
  (frost : f.arb.frostLockout = false)
include online outdoor frost

theorem judge_idle (m : f.arb.mode = .idle) : judge margin f w = judgeIdle f.arb w := by
  simp [judge, online, outdoor, frost, m]

theorem judge_heat (m : f.arb.mode = .heat) : judge margin f w = judgeHeat margin f.arb w := by
  simp [judge, online, outdoor, frost, m]

theorem judge_cool (m : f.arb.mode = .cool ∨ f.arb.mode = .dry) :
    judge margin f w = judgeCool margin f.arb w := by
  rcases m with m | m <;> simp [judge, online, outdoor, frost, m]

theorem judge_changeover (m : f.arb.mode = .changeover) :
    judge margin f w = judgeChangeover f.arb w := by
  simp [judge, online, outdoor, frost, m]

/-- A mode is entered from IDLE without min-off and from CHANGEOVER after its pause (R111, R120). -/
theorem judge_enter (ready : (f.arb.mode = .idle ∧ f.arb.minOff.isRunning = false) ∨
      (f.arb.mode = .changeover ∧ f.arb.pause.isRunning = false)) {m : PlantMode}
    (target : startTarget w = some m) : judge margin f w = .enter m := by
  rcases ready with ⟨idle, minOff⟩ | ⟨changeover, pause⟩
  · rw [judge_idle online outdoor frost idle]
    simp [judgeIdle, target, minOff]
  · rw [judge_changeover online outdoor frost changeover]
    simp [judgeChangeover, target, pause]

/-- The other side pulls far enough: a changeover (R113, R114). -/
theorem judge_changes (dwell : f.arb.dwell = .expired)
    (pulls : (f.arb.mode = .heat ∧ w.hs + margin < w.k) ∨
      ((f.arb.mode = .cool ∨ f.arb.mode = .dry) ∧ w.k + margin < w.hs)) :
    judge margin f w = .changeover := by
  rcases pulls with ⟨heat, more⟩ | ⟨side, more⟩
  · rw [judge_heat online outdoor frost heat]
    simp [judgeHeat, dwell, more]
  · rw [judge_cool online outdoor frost side]
    simp [judgeCool, dwell, more]

/-- The demand of the running side is gone and the other side does not pull (R113, R114). -/
theorem judge_gone (gone : (f.arb.mode = .heat ∧ w.hs = 0 ∧
        (w.k ≤ w.hs + margin ∨ f.arb.dwell ≠ .expired)) ∨
      ((f.arb.mode = .cool ∨ f.arb.mode = .dry) ∧ w.k = 0 ∧
        (w.hs ≤ w.k + margin ∨ f.arb.dwell ≠ .expired))) : judge margin f w = judgeGone f.arb := by
  rcases gone with ⟨heat, without, stays⟩ | ⟨side, without, stays⟩
  · rw [judge_heat online outdoor frost heat]
    unfold judgeHeat
    rw [if_neg (by simp only [Bool.and_eq_true, beq_iff_eq, decide_eq_true_eq]; grind),
      if_pos (beq_iff_eq.mpr without)]
  · rw [judge_cool online outdoor frost side]
    unfold judgeCool
    rw [if_neg (by simp only [Bool.and_eq_true, beq_iff_eq, decide_eq_true_eq]; grind),
      if_pos (beq_iff_eq.mpr without)]

/-- HEAT with demand goes on (R113). -/
theorem judge_heats (heat : f.arb.mode = .heat) (wants : w.hs ≠ 0)
    (stays : w.k ≤ w.hs + margin ∨ f.arb.dwell ≠ .expired) :
    judge margin f w = .stay false false := by
  rw [judge_heat online outdoor frost heat]
  unfold judgeHeat
  rw [if_neg (by simp only [Bool.and_eq_true, beq_iff_eq, decide_eq_true_eq]; grind),
    if_neg (by simpa using wants)]

/-- The cool side with demand goes on, or switches (R114). -/
theorem judge_cools (side : f.arb.mode = .cool ∨ f.arb.mode = .dry) (wants : w.k ≠ 0)
    (stays : w.hs ≤ w.k + margin ∨ f.arb.dwell ≠ .expired) : judge margin f w =
      if f.arb.mode = .cool ∧ w.cs + 40 < w.ys then .switch .dry
      else if f.arb.mode = .dry ∧ w.ys + 40 < w.cs then .switch .cool else .stay false false := by
  rw [judge_cool online outdoor frost side]
  unfold judgeCool
  rw [if_neg (by simp only [Bool.and_eq_true, beq_iff_eq, decide_eq_true_eq]; grind),
    if_neg (by simpa using wants)]
  simp only [Bool.and_eq_true, beq_iff_eq, decide_eq_true_eq]
  rfl

end

end

/-! ### What a verdict leaves (R112, R113, R119 to R123) -/

namespace State
variable {s : State} {f : PlantFlight}

theorem worked_stay {x y : Bool} (v : s.verdict f = .stay x y) :
    (s.worked f).arb.mode = s.plant.arb.mode ∧ (s.worked f).arb.startHeld = x ∧
    (s.worked f).arb.runHeld = y := by
  rw [worked_arb]
  unfold decided
  rw [v]
  exact ⟨rfl, rfl, rfl⟩

theorem worked_enter {m : PlantMode} (v : s.verdict f = .enter m) :
    (s.worked f).arb.mode = m ∧ (s.worked f).arb.valve = (m == .heat) ∧
    (s.worked f).arb.minOn = s.timer Config.minOnMs ∧
    (s.worked f).arb.dwell = s.timer (1000 * s.cfg.dwell) ∧ (s.worked f).arb.minOff = .stopped := by
  rw [worked_arb]
  unfold decided
  rw [v]
  exact ⟨rfl, rfl, rfl, rfl, rfl⟩

/-- A mode is entered with a trip count of 0, which a trip noted with its guard alone raises (R148). -/
theorem worked_tripCount {m : PlantMode} (v : s.verdict f = .enter m) :
    (s.worked f).prot.tripCount ≤ 1 ∧ (f.prot.guard = false → (s.worked f).prot.tripCount = 0) := by
  have afresh : (s.entering f).tripCount = 0 := by
    unfold entering
    rw [v]
    rfl
  have count : (s.worked f).prot.tripCount =
      if tripBegins (s.worked f).arb.mode f then saturate (s.entering f).tripCount 3
      else (s.entering f).tripCount := rfl
  rw [count, afresh]
  refine ⟨by split_ifs <;> decide, fun guard => if_neg fun begins => ?_⟩
  obtain ⟨-, -, -, on, -⟩ := tripBegins_iff.mp begins
  exact absurd (on.symm.trans guard) (by simp)

theorem worked_stop (v : s.verdict f = .stop) : (s.worked f).arb.mode = .idle ∧
    (s.worked f).arb.valve = false ∧ (s.worked f).arb.minOff = s.timer Config.minOffMs := by
  rw [worked_arb]
  unfold decided
  rw [v]
  exact ⟨rfl, rfl, rfl⟩

theorem worked_changeover (v : s.verdict f = .changeover) : (s.worked f).arb.mode = .changeover ∧
    (s.worked f).arb.valve = false ∧ (s.worked f).arb.pause = s.timer Config.pauseMs ∧
    (s.worked f).arb.minOff = s.timer Config.minOffMs := by
  rw [worked_arb]
  unfold decided
  rw [v]
  exact ⟨rfl, rfl, rfl, rfl⟩

theorem worked_lockout {cause : LockoutCause} (v : s.verdict f = .lockout cause) :
    (s.worked f).arb.mode = .lockout ∧ (s.worked f).arb.valve = false ∧
    (s.worked f).arb.minOff = s.timer Config.minOffMs ∧ (s.worked f).arb.cause = cause := by
  rw [worked_arb]
  unfold decided
  rw [v]
  exact ⟨rfl, rfl, rfl, rfl⟩

theorem worked_remain {cause : LockoutCause} (v : s.verdict f = .remain cause) :
    (s.worked f).arb.mode = s.plant.arb.mode ∧ (s.worked f).arb.cause = cause := by
  rw [worked_arb]
  unfold decided
  rw [v]
  exact ⟨rfl, rfl⟩

theorem worked_release (v : s.verdict f = .release) :
    (s.worked f).arb.mode = .idle ∧ (s.worked f).arb.cause = .none := by
  rw [worked_arb]
  unfold decided
  rw [v]
  exact ⟨rfl, rfl⟩

theorem worked_rest (v : s.verdict f = .rest) : (s.worked f).arb.mode = .idle := by
  rw [worked_mode]
  unfold decided
  rw [v]
  rfl

theorem worked_switch {m : PlantMode} (v : s.verdict f = .switch m) :
    (s.worked f).arb.mode = m ∧ (s.worked f).arb.runHeld = false := by
  rw [worked_arb]
  unfold decided
  rw [v]
  exact ⟨rfl, rfl⟩

/-- The cool side switched or standing, with no run held (R114). -/
theorem worked_cools {toDry toCool : Prop} [Decidable toDry] [Decidable toCool]
    (v : s.verdict f = if toDry then .switch .dry else if toCool then .switch .cool
      else .stay false false) :
    (s.worked f).arb.runHeld = false ∧
    (s.worked f).arb.mode = if toDry then .dry else if toCool then .cool else s.plant.arb.mode := by
  split_ifs at v ⊢
  · exact (worked_switch v).symm
  · exact (worked_switch v).symm
  · obtain ⟨mode, -, unheld⟩ := worked_stay v
    exact ⟨unheld, mode⟩

/-- Out of the running states the compressor is not called (R134, R135). -/
theorem worked_call (rests : (s.worked f).arb.mode.running = false) :
    (s.worked f).air.call = false := by
  obtain ⟨-, -, -, -, kc⟩ := Air.work_figures (s.worked_air f)
  rw [Air.work_call (s.worked_air f), kc]
  refine decide_eq_false ?_
  cases hm : (s.worked f).arb.mode <;> simp_all [PlantMode.running, capacityDemand]

/-- A void reckoning's end stores its sums and nothing else (R108, R125). -/
theorem endPlant_void (void : f.void = true) :
    (s.endPlant f).plant.arb = s.plant.arb.storeSums (sumsOf f.entries) ∧
    (s.endPlant f).plant.prot = s.plant.prot ∧ (s.endPlant f).plant.air = s.plant.air ∧
    (s.endPlant f).plant.mark = false ∧ (s.endPlant f).plant.flight.isSome = s.plant.mark := by
  set v := s.onPlant fun p => { p with arb := p.arb.storeSums (sumsOf f.entries) } with hv
  have ended : s.endPlant f = v.closePlant s.plant.mark := by
    unfold endPlant
    rw [void]
    rfl
  obtain ⟨mark, flight⟩ := closePlant_flight v s.plant.mark
  obtain ⟨arb, air, prot⟩ := (closePlant_changes (s := v) s.plant.mark).of_not_mem (i := .sequencer)
    (by decide)
  rw [ended]
  exact ⟨arb, prot, air, mark, flight⟩

/-- The sums are stored, valid or not, and no mark is left (R107, R110, R125). -/
theorem endPlant_sums (s : State) (f : PlantFlight) :
    (s.endPlant f).plant.arb.hs = (sumsOf f.entries).hs ∧
    (s.endPlant f).plant.arb.cs = (sumsOf f.entries).cs ∧
    (s.endPlant f).plant.arb.ys = (sumsOf f.entries).ys ∧ (s.endPlant f).plant.mark = false := by
  cases void : f.void
  · obtain ⟨arb, -, -, mark, -⟩ := s.endPlant_worked void
    rw [arb, worked_arb]
    exact ⟨rfl, rfl, rfl, mark⟩
  · obtain ⟨arb, -, -, mark, -⟩ := s.endPlant_void void
    rw [arb]
    exact ⟨rfl, rfl, rfl, mark⟩

/-- The next reckoning begins after a change of plant state, a new frost lockout or a pending mark (R107,
R109, R148). -/
theorem endPlant_flight (valid : f.void = false) : (s.endPlant f).plant.flight.isSome = true ↔
    s.plant.mark = true ∨ (s.endPlant f).plant.arb.mode ≠ s.plant.arb.mode ∨
      ((s.endPlant f).plant.arb.frostLockout = true ∧ s.plant.arb.frostLockout = false) := by
  obtain ⟨arb, -, -, -, flight⟩ := s.endPlant_worked valid
  rw [flight, arb]
  simp [Plant.markAfter, or_assoc]

end State

open State in
/-- Settles O43: the verdict of each case of the tests, and what the plant worked by it shows. -/
theorem plantReckoningMakesItsTransition : Obligations.PlantReckoningMakesItsTransition := by
  intro s f hs cs ys k held flies computing hhs hcs hys hk
  rw [← weightedSum_eq_wantedSum] at hhs hcs hys
  set w := sumsOf f.entries with hw
  obtain rfl : hs = w.hs := hhs
  obtain rfl : cs = w.cs := hcs
  obtain rfl : ys = w.ys := hys
  obtain rfl : k = w.k := hk
  have run := exec_plantEnd held flies computing
  have changes := exec_changes rfl run
  set u := s.reach f.due with hu
  have judged : u.verdict f = judge s.cfg.margin f w := rfl
  obtain ⟨hhs, hcs, hys, mark⟩ := u.endPlant_sums f
  refine ⟨_, run, hhs, hcs, hys, mark, fun void => ?_, endPlant_flight, fun valid offline => ?_,
    fun valid online unlocked faulted => ?_, fun valid online locked stands => ?_,
    fun valid online outdoor frost => ?_,
    changes.of_not_mem (i := .drive) (by decide), changes.of_not_mem (i := .setpoints) (by decide),
    sensing_of_sameBut changes (by decide), member_of_sameBut changes (by decide)⟩
  · obtain ⟨arb, prot, air, -, flight⟩ := u.endPlant_void void
    exact ⟨arb, prot, air, flight⟩
  · obtain ⟨arb, -⟩ := u.endPlant_worked valid
    rw [arb]
    exact (worked_stay (judged.trans (judge_offline offline))).1
  · obtain ⟨arb, air, -⟩ := u.endPlant_worked valid
    obtain ⟨mode, valve, minOff, cause⟩ := worked_lockout
      (judged.trans (judge_lockout online unlocked faulted))
    rw [arb, air]
    exact ⟨mode, valve, worked_call (by rw [mode]; rfl), minOff, cause⟩
  · obtain ⟨arb, -⟩ := u.endPlant_worked valid
    rw [arb]
    exact worked_remain (judged.trans ((judge_locked online locked).trans (judgeLockout_remain stands)))
  · obtain ⟨arb, air, prot, -⟩ := u.endPlant_worked valid
    rw [arb, air, prot]
    refine ⟨fun idle minOff wants => ?_, fun idle heat cool => ?_, fun ready wants => ?_,
      fun heat dwell more => ?_, fun gone => ?_, fun heat wants stays => ?_, fun side dwell more => ?_,
      fun side wants stays => ?_, fun changeover pause => ?_, fun changeover pause heat cool => ?_,
      fun locked minOff => ?_⟩
    · have stays : u.verdict f = .stay true false := by
        rw [judged, judge_idle online outdoor frost idle]
        simp [judgeIdle, startTarget_some wants, minOff]
      obtain ⟨mode, started, -⟩ := worked_stay stays
      exact ⟨started, mode⟩
    · have stays : u.verdict f = .stay false false := by
        rw [judged, judge_idle online outdoor frost idle]
        simp [judgeIdle, startTarget_none heat cool]
      obtain ⟨mode, started, -⟩ := worked_stay stays
      exact ⟨started, mode⟩
    · have enters := judged.trans (judge_enter online outdoor frost ready (startTarget_some wants))
      obtain ⟨mode, valve, minOn, dwell, minOff⟩ := worked_enter enters
      refine ⟨mode, valve.trans ?_, minOn, dwell, minOff, worked_tripCount enters⟩
      by_cases heats : w.k ≤ w.hs ∧ 20 ≤ w.hs
      · rw [if_pos heats, decide_eq_true heats]
        rfl
      · rw [if_neg heats, decide_eq_false heats]
        split_ifs <;> rfl
    · obtain ⟨mode, valve, pause, minOff⟩ := worked_changeover
        (judged.trans (judge_changes online outdoor frost dwell (.inl ⟨heat, more⟩)))
      exact ⟨mode, valve, worked_call (by rw [mode]; rfl), pause, minOff⟩
    · have gone' := judged.trans (judge_gone online outdoor frost gone)
      refine ⟨fun expired => ?_, fun runs => ?_⟩
      · obtain ⟨mode, valve, minOff⟩ := worked_stop (gone'.trans (judgeGone_expired expired))
        exact ⟨mode, valve, worked_call (by rw [mode]; rfl), minOff⟩
      · obtain ⟨mode, -, held⟩ := worked_stay (gone'.trans (judgeGone_running runs))
        exact ⟨mode, held⟩
    · obtain ⟨mode, -, unheld⟩ := worked_stay
        (judged.trans (judge_heats online outdoor frost heat wants stays))
      exact ⟨mode, unheld⟩
    · obtain ⟨mode, -, pause, -⟩ := worked_changeover
        (judged.trans (judge_changes online outdoor frost dwell (.inr ⟨side, more⟩)))
      exact ⟨mode, pause⟩
    · have cools := judged.trans (judge_cools online outdoor frost side wants stays)
      exact worked_cools cools
    · have stays : u.verdict f = .stay false false := by
        rw [judged, judge_changeover online outdoor frost changeover]
        simp [judgeChangeover, pause]
      exact (worked_stay stays).1
    · have rests : u.verdict f = .rest := by
        rw [judged, judge_changeover online outdoor frost changeover]
        simp [judgeChangeover, pause, startTarget_none heat cool]
      exact worked_rest rests
    · have released : u.verdict f = .release := by
        rw [judged, judge_locked online locked, outdoor]
        exact judgeLockout_release frost minOff
      exact worked_release released

end Sys2Proof.Machine
end

section
/-! PROOF. A prompt cause acted on by the announcement state (R56, R57, R139, R140). -/

namespace Sys2Proof.Machine

namespace State
variable {s t u : State} {a : List Item} {b : Bool}

/-! ### One prompt cause (R57, R140) -/

theorem announcementWaits_iff (s : State) : s.announcementWaits = true ↔
    ∃ e ∈ s.line.queue, e.kind = ownKind s.role ∧ e.inFlight = false := by
  simp [announcementWaits]

theorem announcing_iff (s : State) : s.announcing = true ↔
    ∃ e ∈ s.line.queue, e.kind = ownKind s.role ∧ e.inFlight = true := by
  simp [announcing]

theorem markWaiting_acts (s : State) :
    s.markWaiting.line = s.line ∧ s.markWaiting.announcer = { s.announcer with waiting := true } :=
  ⟨s.onAnnouncer_line _, s.onAnnouncer_announcer _⟩

section
variable (online : s.member.station = .online)
include online

theorem promptCause_stands (waits : s.announcementWaits = true) : s.promptCause = s := by
  unfold promptCause
  rw [online, waits]
  rfl

theorem promptCause_marks (unsent : s.announcementWaits = false)
    (busy : s.announcing = true ∨ s.announcer.spacing.isRunning = true) :
    s.promptCause = s.markWaiting := by
  unfold promptCause
  rw [online, unsent]
  rcases busy with h | h <;> simp [h]

theorem promptCause_places (unsent : s.announcementWaits = false) (idle : s.announcing = false)
    (spaced : s.announcer.spacing.isRunning = false) : s.promptCause = s.placeAnnouncement := by
  unfold promptCause
  rw [online, unsent, idle, spaced]
  rfl

/-- Where the queue holds no other periodic frame, a prompt cause is acted on as R57 and R140 say. -/
theorem promptCause_prompted
    (own : ∀ e ∈ s.line.queue, e.kind.periodic = true → e.kind = ownKind s.role) :
    prompted s s.promptCause := by
  refine ⟨fun waits => ?_, fun flying busy => ?_, fun missing spaced => ?_⟩
  · rw [promptCause_stands online ((announcementWaits_iff s).mpr waits)]
    exact ⟨rfl, rfl⟩
  · have unsent : s.announcementWaits = false := Bool.eq_false_iff.mpr fun h => by
      obtain ⟨e, he, kind, rests⟩ := (announcementWaits_iff s).mp h
      exact absurd ((flying e he kind).symm.trans rests) (by simp)
    rw [promptCause_marks online unsent (busy.imp (fun ⟨e, he, kind⟩ =>
      (announcing_iff s).mpr ⟨e, he, kind, flying e he kind⟩) id)]
    exact s.markWaiting_acts
  · have free : ∀ e ∈ s.line.queue, e.kind.periodic = false := fun e he =>
      Bool.eq_false_iff.mpr fun periodic => missing e he (own e he periodic)
    have unsent : s.announcementWaits = false := Bool.eq_false_iff.mpr fun h => by
      obtain ⟨e, he, kind, -⟩ := (announcementWaits_iff s).mp h
      exact missing e he kind
    have idle := announcing_of_free free
    have now : s.placeAnnouncement.now = s.now :=
      s.placeAnnouncement_changes.of_not_mem (i := .clock) (by decide)
    rw [promptCause_places online unsent idle spaced]
    refine ⟨placeAnnouncement_queue online free, ?_⟩
    rw [placeAnnouncement_announcer, idle, now]
    rfl

end

/-- A second prompt cause after one acted on changes nothing more (log entry 28). -/
theorem promptCause_again (online : u.member.station = .online) (role : u.role = s.role)
    (first : prompted s u) : prompted s u.promptCause := by
  obtain ⟨stands, marks, places⟩ := first
  have now : u.promptCause.now = u.now := u.promptCause_changes.of_not_mem (i := .clock) (by decide)
  refine ⟨fun waits => ?_, fun flying busy => ?_, fun missing spaced => ?_⟩
  · obtain ⟨line, told⟩ := stands waits
    rw [promptCause_stands online ((announcementWaits_iff u).mpr (by rw [line, role]; exact waits))]
    exact ⟨line, told⟩
  · obtain ⟨line, told⟩ := marks flying busy
    have unsent : u.announcementWaits = false := Bool.eq_false_iff.mpr fun h => by
      obtain ⟨e, he, kind, rests⟩ := (announcementWaits_iff u).mp h
      rw [line] at he
      rw [role] at kind
      exact absurd ((flying e he kind).symm.trans rests) (by simp)
    have busy' : u.announcing = true ∨ u.announcer.spacing.isRunning = true :=
      busy.imp (fun ⟨e, he, kind⟩ => (announcing_iff u).mpr
        ⟨e, by rw [line]; exact he, kind.trans (congrArg ownKind role.symm), flying e he kind⟩)
        (fun h => by rw [told]; exact h)
    obtain ⟨line', told'⟩ := u.markWaiting_acts
    rw [promptCause_marks online unsent busy']
    exact ⟨line'.trans line, by rw [told', told]⟩
  · obtain ⟨queue, told⟩ := places missing spaced
    have waits : u.announcementWaits = true := (announcementWaits_iff u).mpr
      ⟨_, by rw [queue]; exact List.mem_append_right _ (List.mem_singleton.mpr rfl), by rw [role], rfl⟩
    rw [promptCause_stands online waits]
    exact ⟨queue, told⟩

/-! ### The prompt causes of a command, told one after the other (log entry 28) -/

/-- Between s and t the line and the announcer show what the prompt causes told so far make of them;
`b` says whether there was one. -/
structure chimes (s t : State) (b : Bool) : Prop where
  role : t.role = s.role
  station : t.member.station = s.member.station
  acted : b = true → prompted s t
  still : b = false → t.line = s.line ∧ t.announcer = s.announcer

/-- The items on which the announcement stands, but for the clock. -/
abbrev hushItems : List Item :=
  [.fixed, .station, .announcer, .current, .pair, .latches, .counters, .wire]

theorem line_of_sameBut (h : s.sameBut a t) (ha : ∀ i ∈ hushItems, i ∉ a) : t.line = s.line := by
  have current : _ = _ := h.of_not_mem (ha .current (by decide))
  have pair : _ = _ := h.of_not_mem (ha .pair (by decide))
  have latches : _ = _ := h.of_not_mem (ha .latches (by decide))
  have counters : _ = _ := h.of_not_mem (ha .counters (by decide))
  have wire : _ = _ := h.of_not_mem (ha .wire (by decide))
  rw [current, pair, latches, counters] at wire
  exact wire

theorem announcer_of_sameBut (h : s.sameBut a t) (ha : ∀ i ∈ hushItems, i ∉ a) :
    t.announcer = s.announcer := by
  obtain ⟨-, role, -⟩ := h.of_not_mem (ha .fixed (by decide))
  obtain ⟨zone, plant⟩ := h.of_not_mem (ha .announcer (by decide))
  unfold announcer
  rw [role, zone, plant]

theorem chimes_start (h : s.sameBut a t) (ha : ∀ i ∈ hushItems, i ∉ a) : s.chimes t false where
  role := (h.of_not_mem (ha .fixed (by decide))).2.1
  station := h.of_not_mem (i := .station) (ha .station (by decide))
  acted := fun h => absurd h (by simp)
  still := fun _ => ⟨line_of_sameBut h ha, announcer_of_sameBut h ha⟩

theorem chimes.quiet (h : s.chimes u b) (k : u.sameBut a t) (ha : ∀ i ∈ Item.clock :: hushItems, i ∉ a) :
    s.chimes t b := by
  have hq : ∀ i ∈ hushItems, i ∉ a := fun i hi => ha i (List.mem_cons_of_mem _ hi)
  have line := line_of_sameBut k hq
  have told := announcer_of_sameBut k hq
  have now : t.now = u.now := k.of_not_mem (i := .clock) (ha .clock (by decide))
  obtain ⟨-, role, -⟩ := k.of_not_mem (hq .fixed (by decide))
  refine ⟨role.trans h.role, ?_, fun hb => ?_, fun hb => ?_⟩
  · exact Eq.trans (k.of_not_mem (i := .station) (hq .station (by decide))) h.station
  · unfold prompted
    rw [line, told, now]
    exact h.acted hb
  · rw [line, told]
    exact h.still hb

/-- One more cause told. -/
theorem chimes.prompt (h : s.chimes u b) (online : s.member.station = .online)
    (own : ∀ e ∈ s.line.queue, e.kind.periodic = true → e.kind = ownKind s.role) (c : Bool) :
    s.chimes (u.andIf c promptCause) (b || c) := by
  cases c
  · rw [Bool.or_false]
    exact h
  have online' : u.member.station = .online := h.station.trans online
  obtain ⟨-, role, -⟩ := (u.promptCause_changes).of_not_mem (i := .fixed) (by decide)
  have station : u.promptCause.member.station = u.member.station :=
    u.promptCause_changes.of_not_mem (i := .station) (by decide)
  rw [andIf_true, Bool.or_true]
  refine ⟨role.trans h.role, station.trans h.station, fun _ => ?_, fun hb => absurd hb (by simp)⟩
  cases b with
  | true => exact promptCause_again online' h.role (h.acted rfl)
  | false =>
    obtain ⟨line, told⟩ := h.still rfl
    have acts := promptCause_prompted (s := u) online' (by rw [line, h.role]; exact own)
    unfold prompted at acts ⊢
    rwa [line, told, h.role] at acts

/-- What a command's prompt causes have to show. -/
theorem chimes.settles {c : Instr} (h : s.chimes t b) (arises : promptArises c s t ↔ b = true) :
    (promptArises c s t → prompted s t) ∧
    (¬promptArises c s t → t.line = s.line ∧ t.announcer = s.announcer) :=
  ⟨fun cause => h.acted (arises.mp cause), fun without =>
    h.still (Bool.eq_false_iff.mpr fun hb => without (arises.mpr hb))⟩

/-! ### The flags (R54, R56, R137, R139) -/

/-- The items from which the flags of the own record are read. -/
abbrev flagItems : List Item := [.fixed, .station, .roster, .channels, .contacts, .drive]

theorem zoneFlags_of_sameBut (h : s.sameBut a t) (ha : ∀ i ∈ flagItems, i ∉ a) :
    t.zoneFlags = s.zoneFlags := by
  obtain ⟨-, role, -, cfg, -⟩ := h.of_not_mem (ha .fixed (by decide))
  have station : _ = _ := h.of_not_mem (ha .station (by decide))
  obtain ⟨table, -⟩ := h.of_not_mem (ha .roster (by decide))
  obtain ⟨first, second⟩ := h.of_not_mem (ha .channels (by decide))
  obtain ⟨contact1, contact2⟩ := h.of_not_mem (ha .contacts (by decide))
  have drive : _ = _ := h.of_not_mem (ha .drive (by decide))
  unfold zoneFlags windowOpen contactInUse plantSilent twoPlants
  rw [role, cfg, station, table, first, second, contact1, drive]

theorem plantFlags_of_sameBut (h : s.sameBut a t) (ha : ∀ i ∈ flagItems, i ∉ a) :
    t.plantFlags = s.plantFlags := by
  obtain ⟨-, role, -⟩ := h.of_not_mem (ha .fixed (by decide))
  obtain ⟨table, -⟩ := h.of_not_mem (ha .roster (by decide))
  obtain ⟨first, second⟩ := h.of_not_mem (ha .channels (by decide))
  unfold plantFlags twoPlants
  rw [role, table, first, second]

/-- The flags of the own record differ from those of an older state. -/
def flagsDiffer (s old : State) : Bool :=
  if s.role = .zone then s.zoneFlags != old.zoneFlags else s.plantFlags != old.plantFlags

theorem promptFlags_eq (s old : State) : s.promptFlags old = s.andIf (s.flagsDiffer old) promptCause := by
  unfold promptFlags flagsDiffer
  split
  next zone => rw [if_pos zone]
  next plant => rw [if_neg (by rw [plant]; decide)]

end State

end Sys2Proof.Machine
end

section
/-! PROOF. The prompt causes of the part's own events (R56, R57, R139, R140). -/

namespace Sys2Proof.Machine

namespace State
variable {s t u x : State} {a : List Item} {b : Bool} {c : Instr}

/-- The prompt causes between s and t, by the command c, are acted on, and nothing else is announced. -/
def heeds (c : Instr) (s t : State) : Prop :=
  (promptArises c s t → prompted s t) ∧
  (¬promptArises c s t → t.line = s.line ∧ t.announcer = s.announcer)

/-- The command makes the demand unit evaluate: a sample expiry, or WINDOW's debounce (R47). -/
def evaluates (c : Instr) (s : State) : Prop :=
  (s.sensing.sample.isRunning = true ∧ ∃ a b, c = .sampleTimerExpiry a b) ∨
    (s.sensing.contact1.debounce.isRunning = true ∧ c = .debounceExpiry .first)

theorem promptArises_zone (zone : s.role = .zone) : promptArises c s t ↔
    t.zoneFlags ≠ s.zoneFlags ∨ t.demand.wanted ≠ s.demand.wanted ∨
    t.demand.reliefAvailable ≠ s.demand.reliefAvailable ∨
    (evaluates c s ∧
      ∃ d ∈ s.announcer.last, 10 ≤ max t.demand.demand d - min t.demand.demand d) := by
  unfold promptArises
  rw [zone]
  rfl

theorem promptArises_plant (plant : s.role = .plant) : promptArises c s t ↔
    t.plantFlags ≠ s.plantFlags ∨ t.plant.arb.mode ≠ s.plant.arb.mode ∨
    t.plant.arb.cause ≠ s.plant.arb.cause ∨ t.plant.phases ≠ s.plant.phases ∨
    (t.plant.air.qb ≠ s.plant.air.qb ∧
      ∃ q ∈ s.announcer.last, 4 ≤ max t.plant.air.qb q - min t.plant.air.qb q) := by
  unfold promptArises
  rw [plant]

theorem movedFrom_iff (s : State) (n : Nat) : s.movedFrom n = true ↔
    ∃ d ∈ s.announcer.last, promptStep s.role ≤ max n d - min n d := by
  unfold movedFrom
  cases s.announcer.last <;> simp

/-- What a prompt cause of the announced figures is read from (R56, R139). -/
structure figuresStand (s t : State) : Prop where
  wanted : t.demand.wanted = s.demand.wanted
  relief : t.demand.reliefAvailable = s.demand.reliefAvailable
  mode : t.plant.arb.mode = s.plant.arb.mode
  cause : t.plant.arb.cause = s.plant.arb.cause
  phases : t.plant.phases = s.plant.phases
  qb : t.plant.air.qb = s.plant.air.qb

theorem figuresStand.trans (h : s.figuresStand t) (k : t.figuresStand u) : s.figuresStand u :=
  ⟨k.wanted.trans h.wanted, k.relief.trans h.relief, k.mode.trans h.mode, k.cause.trans h.cause,
    k.phases.trans h.phases, k.qb.trans h.qb⟩

theorem figuresStand_of_sameBut (h : s.sameBut a t) (ha : ∀ i ∈ [Item.demand, .sequencer], i ∉ a) :
    s.figuresStand t := by
  have demand : _ = _ := h.of_not_mem (ha .demand (by decide))
  obtain ⟨arb, air, prot⟩ := h.of_not_mem (ha .sequencer (by decide))
  have phases : t.plant.phases = s.plant.phases := by
    unfold Plant.phases
    rw [arb, prot]
  exact ⟨by rw [demand], by rw [demand], by rw [arb], by rw [arb], phases, by rw [air]⟩

/-- Where the figures stand only a changed flag is a prompt cause. -/
theorem promptArises_flags (stands : s.figuresStand t) (role : t.role = s.role)
    (unevaluated : s.role = .zone → ¬evaluates c s) :
    promptArises c s t ↔ t.flagsDiffer s = true := by
  unfold flagsDiffer
  rw [role]
  cases hr : s.role
  · rw [promptArises_zone hr]
    simp [stands.wanted, stands.relief, unevaluated hr]
  · rw [promptArises_plant hr]
    simp [stands.mode, stands.cause, stands.phases, stands.qb]

theorem flagsDiffer_congr {old : State} (role : t.role = u.role) (zone : t.zoneFlags = u.zoneFlags)
    (plant : t.plantFlags = u.plantFlags) (zone' : old.zoneFlags = s.zoneFlags)
    (plant' : old.plantFlags = s.plantFlags) : t.flagsDiffer s = u.flagsDiffer old := by
  unfold flagsDiffer
  rw [role, zone, plant, zone', plant']

/-! ### Events that leave the announced figures -/

/-- The figures and the flags stand. -/
theorem still_heeds (h : s.sameBut a t) (ha : ∀ i ∈ hushItems, i ∉ a) (stands : s.figuresStand t)
    (flags : t.flagsDiffer s = false) (unevaluated : s.role = .zone → ¬evaluates c s) : heeds c s t := by
  refine (chimes_start h ha).settles ?_
  rw [promptArises_flags stands (h.of_not_mem (ha .fixed (by decide))).2.1 unevaluated, flags]

/-- Nothing that is announced changes. -/
theorem unchanged_heeds (h : s.sameBut a t)
    (ha : ∀ i ∈ Item.demand :: .sequencer :: (hushItems ++ flagItems), i ∉ a)
    (unevaluated : s.role = .zone → ¬evaluates c s) : heeds c s t := by
  have flag : ∀ i ∈ flagItems, i ∉ a := fun i hi => ha i (by revert hi; cases i <;> decide)
  refine still_heeds h (fun i hi => ha i (by revert hi; cases i <;> decide))
    (figuresStand_of_sameBut h fun i hi => ha i (by revert hi; cases i <;> decide)) ?_ unevaluated
  unfold flagsDiffer
  rw [zoneFlags_of_sameBut h flag, plantFlags_of_sameBut h flag]
  simp

theorem expiry_heeds {timer : Timer} {act : State → State} (held : s.held = false)
    (rests : timer.isRunning = false → ¬evaluates c s)
    (runs : ∀ d, timer = .running d → heeds c s (act (s.reach d))) :
    heeds c s (s.takeExpiry timer act) := by
  cases h : timer with
  | running d =>
    rw [s.takeExpiry_running d act held]
    exact runs d h
  | stopped | expired =>
    rw [s.takeExpiry_idle _ act rfl]
    exact unchanged_heeds (s.sameBut_refl []) (by decide) fun _ => rests (by rw [h]; rfl)

section
variable (online : s.member.station = .online)
  (own : ∀ e ∈ s.line.queue, e.kind.periodic = true → e.kind = ownKind s.role)
include online own

/-- The figures stand, and the flags may prompt. -/
theorem flags_heeds (h : s.sameBut a x) (ha : ∀ i ∈ hushItems, i ∉ a) (stands : s.figuresStand x)
    (zone : u.zoneFlags = s.zoneFlags) (plant : u.plantFlags = s.plantFlags)
    (unevaluated : s.role = .zone → ¬evaluates c s) : heeds c s (x.promptFlags u) := by
  have start := chimes_start h ha
  have last := x.promptFlags_changes u
  have tells := start.prompt online own (x.flagsDiffer u)
  rw [← promptFlags_eq] at tells
  refine tells.settles ?_
  rw [promptArises_flags (stands.trans (figuresStand_of_sameBut last (by decide))) tells.role unevaluated,
    flagsDiffer_congr (last.of_not_mem (i := .fixed) (by decide)).2.1
      (zoneFlags_of_sameBut last (by decide)) (plantFlags_of_sameBut last (by decide)) zone plant,
    Bool.false_or]

/-- A drive event: its damper-fault flag may prompt. -/
theorem drive_heeds (h : s.sameBut [.clock] u) (steps : u.drives x) (un : ¬evaluates c s) :
    heeds c s (x.promptFlags u) := by
  have all := (h.mono (b := [.clock, .drive]) (by decide)).trans ((sameBut_of_drives steps).mono (by decide))
  exact flags_heeds online own all (by decide) (figuresStand_of_sameBut all (by decide))
    (zoneFlags_of_sameBut h (by decide)) (plantFlags_of_sameBut h (by decide)) fun _ => un

theorem homing_heeds (held : s.held = false) (stall endStop : Bool) :
    ∃ t, exec (.homingStep stall endStop) s = .next t ∧ heeds (.homingStep stall endStop) s t := by
  have un : ¬evaluates (.homingStep stall endStop) s := by simp [evaluates]
  refine ⟨_, rfl, expiry_heeds held (fun _ => un) fun d _ => ?_⟩
  have reach : s.sameBut [.clock] (s.reach d) := s.sameBut_reach d (by decide)
  rcases Bool.eq_false_or_eq_true ((s.reach d).drive.state == .homing) with h | h
  · rw [h, andIf_true]
    exact drive_heeds online own reach (drives_trans ((s.reach d).onDrive_frame _) (homingStep_frame _ _)) un
  · rw [h, andIf_false]
    exact unchanged_heeds reach (by decide) fun _ => un

theorem move_heeds (held : s.held = false) (stall endStop : Bool) :
    ∃ t, exec (.moveStep stall endStop) s = .next t ∧ heeds (.moveStep stall endStop) s t := by
  have un : ¬evaluates (.moveStep stall endStop) s := by simp [evaluates]
  refine ⟨_, rfl, expiry_heeds held (fun _ => un) fun d _ => ?_⟩
  have reach : s.sameBut [.clock] (s.reach d) := s.sameBut_reach d (by decide)
  unfold moves
  split
  · split_ifs
    · exact unchanged_heeds reach (by decide) fun _ => un
    · exact drive_heeds online own reach (drives_trans ((s.reach d).onDrive_frame _) (moveStep_frame _ _ _)) un
  · exact unchanged_heeds reach (by decide) fun _ => un

/-- A change of the table: its flags may prompt. -/
theorem table_heeds (h : s.sameBut [.clock, .aging] u) (table : List Entry) (changed : Bool)
    (un : ¬evaluates c s) : heeds c s (u.tableBecomes table changed) := by
  have tabled : u.sameBut [.roster, .shareFlight, .plantFlight] ((u.onMember fun m => { m with
      table, followed := if changed then followedOf u.role table else u.member.followed }).andIf changed
      membershipChange) :=
    ((u.onMember_roster_changes _ _).mono (by decide)).trans
      ((sameBut_andIf (fun v => v.membershipChange_changes) _ _).mono (by decide))
  have all := (h.mono (b := [.clock, .aging, .roster, .shareFlight, .plantFlight]) (by decide)).trans
    (tabled.mono (by decide))
  exact flags_heeds online own all (by decide) (figuresStand_of_sameBut all (by decide))
    (zoneFlags_of_sameBut h (by decide)) (plantFlags_of_sameBut h (by decide)) fun _ => un

theorem aging_heeds (held : s.held = false) :
    ∃ t, exec .agingExpiry s = .next t ∧ heeds .agingExpiry s t := by
  have un : ¬evaluates .agingExpiry s := by simp [evaluates]
  refine ⟨_, rfl, expiry_heeds held (fun _ => un) fun d _ => ?_⟩
  have reach : s.sameBut [.clock] (s.reach d) := s.sameBut_reach d (by decide)
  have aged : (s.reach d).sameBut [.aging]
      ((s.reach d).onMember fun m => { m with aging := (s.reach d).timer Config.agingMs }) := by
    intro i
    cases i <;> simp [Item.same]
  have again := (reach.mono (b := [.clock, .aging]) (by decide)).trans (aged.mono (by decide))
  dsimp only
  split_ifs
  · exact unchanged_heeds (((again.mono (b := [.clock, .aging, .waits]) (by decide))).trans
      ((onMember_waits_changes _ _ rfl).mono (by decide))) (by decide) fun _ => un
  · exact table_heeds online own again _ _ un

/-! ### An evaluation (R51, R56) -/

/-- The evaluation as the share unit has been told of it, its prompt not yet given. -/
def sharedTo (s old : State) : State :=
  s.evaluatedTo.andIf (s.wantedNext != old.demand.wanted ||
    s.evaluatedTo.demand.reliefAvailable != old.demand.reliefAvailable ||
    s.evaluatedTo.demand.demand != old.demand.demand) shareTrigger

/-- An evaluation's prompt cause (R56). -/
def evaluatePrompts (s old : State) : Bool :=
  s.wantedNext != old.demand.wanted || s.evaluatedTo.demand.reliefAvailable != old.demand.reliefAvailable ||
    (s.sharedTo old).movedFrom (s.sharedTo old).demand.demand

omit online own in
theorem evaluate_eq (s old : State) :
    s.evaluate old = (s.sharedTo old).andIf (s.evaluatePrompts old) promptCause := rfl

omit online own in
theorem sharedTo_changes (s old : State) : s.evaluatedTo.sameBut [.shareFlight] (s.sharedTo old) :=
  sameBut_andIf (fun u => u.shareTrigger_changes) _ _

/-- An evaluation and the flags after it: the two prompt causes told one after the other. -/
theorem evaluate_heeds {old y : State} (zone : s.role = .zone) (h : s.sameBut a x)
    (ha : ∀ i ∈ hushItems, i ∉ a) (evaluated : evaluates c s) (demand : old.demand = s.demand)
    (flags : old.zoneFlags = s.zoneFlags) (flags' : old.plantFlags = s.plantFlags)
    (tells : (x.evaluate old).sameBut [.shareFlight] y) : heeds c s (y.promptFlags old) := by
  have shared := x.sharedTo_changes old
  have worked : x.sameBut [.demand, .shareFlight] (x.sharedTo old) :=
    ((x.onDemand_changes _ rfl).mono (by decide)).trans (shared.mono (by decide))
  have ready : s.chimes (x.sharedTo old) false := (chimes_start h ha).quiet worked (by decide)
  have first := ready.prompt online own (x.evaluatePrompts old)
  rw [← evaluate_eq] at first
  have second := (first.quiet tells (by decide)).prompt online own (y.flagsDiffer old)
  rw [← promptFlags_eq] at second
  have told := ((x.evaluate_evaluatedTo old).trans (tells.mono (by decide))).trans
    ((y.promptFlags_changes old).mono (by decide))
  have last := y.promptFlags_changes old
  generalize y.promptFlags old = t at second told last
  have sharedDemand : _ = _ := shared.of_not_mem (i := .demand) (by decide)
  have toldDemand : _ = _ := told.of_not_mem (i := .demand) (by decide)
  have prompts : x.evaluatePrompts old = true ↔ t.demand.wanted ≠ s.demand.wanted ∨
      t.demand.reliefAvailable ≠ s.demand.reliefAvailable ∨
      ∃ d ∈ s.announcer.last, 10 ≤ max t.demand.demand d - min t.demand.demand d := by
    unfold evaluatePrompts
    rw [Bool.or_eq_true, Bool.or_eq_true, bne_iff_ne, bne_iff_ne, movedFrom_iff, (ready.still rfl).2,
      ready.role, zone, demand, sharedDemand, toldDemand, or_assoc]
    rfl
  have differ : y.flagsDiffer old = true ↔ t.zoneFlags ≠ s.zoneFlags := by
    rw [← flagsDiffer_congr (last.of_not_mem (i := .fixed) (by decide)).2.1
      (zoneFlags_of_sameBut last (by decide)) (plantFlags_of_sameBut last (by decide)) flags flags']
    unfold flagsDiffer
    rw [if_pos (second.role.trans zone), bne_iff_ne]
  refine second.settles ?_
  rw [promptArises_zone zone, Bool.false_or, Bool.or_eq_true, prompts, differ]
  simp only [evaluated, true_and]
  exact or_comm

theorem sample_heeds (held : s.held = false) (first second : Conversion) :
    ∃ t, exec (.sampleTimerExpiry first second) s = .next t ∧
      heeds (.sampleTimerExpiry first second) s t := by
  refine ⟨_, rfl, expiry_heeds held (fun rests => ?_) fun d timer => ?_⟩
  · simp [evaluates, rests]
  set v := s.sampledTo d first second
  show heeds _ s (v.handOver (s.reach d))
  have sampled : s.sameBut [.clock, .sample, .channels] v := fun i => by
    cases i <;> simp [Item.same, v, sampledTo]
  cases role : s.role
  · rw [v.handOver_zone role]
    refine evaluate_heeds (x := v.formed) online own role ((sampled.mono (b := [.clock, .sample, .channels,
      .demand]) (by decide)).trans (v.formed_changes.mono (by decide))) (by decide) (.inl ⟨?_, _, _, rfl⟩)
      rfl rfl rfl (sameBut_refl _ _)
    rw [timer]
    rfl
  · rw [v.handOver_plant role]
    have worked : v.sameBut [.sequencer] v.conditioned := v.onPlant_sequencer_changes _ rfl
    have triggers := v.conditioned.plantTriggers_changes (v.conditioned.conditionChanges (s.reach d))
    have stands : s.figuresStand v.conditioned := ⟨rfl, rfl, rfl, rfl, rfl, rfl⟩
    exact flags_heeds online own (((sampled.mono (b := [.clock, .sample, .channels, .sequencer, .plantFlight])
      (by decide)).trans (worked.mono (by decide))).trans (triggers.mono (by decide))) (by decide)
      (stands.trans (figuresStand_of_sameBut triggers (by decide))) rfl rfl
      fun zone => Role.noConfusion (role.symm.trans zone)

theorem debounce_heeds (held : s.held = false) (contact : Contact) :
    ∃ t, exec (.debounceExpiry contact) s = .next t ∧ heeds (.debounceExpiry contact) s t := by
  refine ⟨_, rfl, expiry_heeds held (fun rests => ?_) fun d timer => ?_⟩
  · cases contact
    · have rests' : s.sensing.contact1.debounce.isRunning = false := rests
      simp [evaluates, rests']
    · simp [evaluates]
  rw [debounced_eq]
  set v := (s.reach d).settled contact
  have settles : s.sameBut [.clock, .sample, .channels, .contacts] v :=
    ((s.sameBut_reach d (a := [.clock]) (by decide)).mono (by decide)).trans
      (((s.reach d).onContact_changes contact _).mono (by decide))
  have stands : s.figuresStand v := figuresStand_of_sameBut settles (by decide)
  have role' : v.role = s.role := (settles.of_not_mem (i := .fixed) (by decide)).2.1
  cases role : s.role
  · cases contact
    · rw [contactChanged_window (role'.trans role)]
      refine evaluate_heeds (x := v) online own role settles (by decide) (.inr ⟨?_, rfl⟩) rfl rfl rfl
        (shareTrigger_changes _)
      have timer' : s.sensing.contact1.debounce = .running d := timer
      rw [timer']
      rfl
    · rw [contactChanged_occupancy (role'.trans role)]
      refine still_heeds settles (by decide) stands ?_ fun _ => by simp [evaluates]
      unfold flagsDiffer
      rw [if_pos (role'.trans role)]
      exact bne_eq_false_iff_eq.mpr rfl
  · rw [contactChanged_plant (role'.trans role)]
    set w : State := { v with plant := { v.plant with prot := v.defrostCounted contact } }
    have counted : v.sameBut [.sequencer] w := v.onPlant_sequencer_changes (fun p => { p with
      prot := v.defrostCounted contact }) rfl
    have triggers := w.plantTrigger_changes
    have counts : v.figuresStand w := ⟨rfl, rfl, rfl, rfl, rfl, rfl⟩
    refine still_heeds (((settles.mono (b := [.clock, .sample, .channels, .contacts, .sequencer,
      .plantFlight]) (by decide)).trans (counted.mono (by decide))).trans (triggers.mono (by decide)))
      (by decide) ((stands.trans counts).trans (figuresStand_of_sameBut triggers (by decide))) ?_
      fun zone => Role.noConfusion (role.symm.trans zone)
    have flags : w.plantTrigger.plantFlags = s.plantFlags :=
      (plantFlags_of_sameBut triggers (by decide)).trans (by cases contact <;> rfl)
    have plant : w.plantTrigger.role = .plant :=
      ((triggers.of_not_mem (i := .fixed) (by decide)).2.1.trans role').trans role
    unfold flagsDiffer
    rw [if_neg (by rw [plant]; decide), flags]
    exact bne_self_eq_false _

/-! ### The sequencer's status (R125, R139) -/

/-- A changed plant told of by its status. -/
theorem status_heeds {m y : State} {a' : List Item} {old : Plant} (plant : s.role = .plant)
    (h : s.sameBut a x) (ha : ∀ i ∈ hushItems, i ∉ a) (flags : x.plantFlags = s.plantFlags)
    (same : old.arb = s.plant.arb ∧ old.air = s.plant.air ∧ old.phases = s.plant.phases)
    (telling : m = x.tellStatus old) (tells : m.sameBut a' y)
    (ha' : ∀ i ∈ Item.clock :: (hushItems ++ flagItems), i ∉ a')
    (block : y.plant.arb = m.plant.arb ∧ y.plant.air = m.plant.air ∧ y.plant.phases = m.plant.phases) :
    heeds c s y := by
  subst telling
  have ready := chimes_start h ha
  have status := x.tellStatus_changes old
  have first : s.chimes (x.tellStatus old) _ := ready.prompt online own _
  have told := first.quiet tells fun i hi => ha' i (by revert hi; cases i <;> decide)
  obtain ⟨arb, air, phases⟩ := same
  obtain ⟨arb', air', phases'⟩ := block
  obtain ⟨arb'', air'', prot''⟩ := status.of_not_mem (i := .sequencer) (by decide)
  have phases'' : (x.tellStatus old).plant.phases = x.plant.phases := by
    unfold Plant.phases
    rw [arb'', prot'']
  have flags' : y.plantFlags = s.plantFlags :=
    ((plantFlags_of_sameBut tells fun i hi => ha' i (by revert hi; cases i <;> decide)).trans
      (plantFlags_of_sameBut status (by decide))).trans flags
  refine told.settles ?_
  rw [promptArises_plant plant, flags', arb', air', phases', arb'', air'', phases'', Bool.false_or, arb, air,
    phases]
  simp only [Bool.or_eq_true, Bool.and_eq_true, bne_iff_ne, movedFrom_iff, (ready.still rfl).2, ready.role,
    plant, or_assoc, ne_eq, not_true_eq_false, false_or]
  rfl

theorem plantTimer_heeds (held : s.held = false) (plant : s.role = .plant) :
    ∃ t, exec .plantTimerExpiry s = .next t ∧ heeds .plantTimerExpiry s t := by
  have un : ¬evaluates .plantTimerExpiry s := by simp [evaluates]
  refine ⟨_, rfl, expiry_heeds held (fun _ => un) fun d _ => ?_⟩
  set u := (s.reach d).onPlant fun p => { p with timer := (s.reach d).timer Config.plantMs } with hu
  set w := u.onPlant fun p => { p with air := u.slewedAir } with hw
  have restarted : s.sameBut [.clock, .plantTimer] u := fun i => by
    cases i <;> simp [Item.same, u]
  have slews : w.sameBut [.shareFlight] (w.andIf (u.slewedAir.qb != u.plant.air.qb) shareTrigger) :=
    sameBut_andIf (fun v => v.shareTrigger_changes) _ _
  have stepped : s.sameBut [.clock, .plantTimer, .sequencer, .shareFlight]
      (w.andIf (u.slewedAir.qb != u.plant.air.qb) shareTrigger) :=
    ((restarted.mono (by decide)).trans ((u.onPlant_sequencer_changes _ rfl).mono (by decide))).trans
      (slews.mono (by decide))
  have triggers := u.slewStep.boostStep.plantTrigger_changes
  have tells : u.slewStep.sameBut [.sequencer, .plantFlight] u.slewStep.boostStep.plantTrigger :=
    (u.slewStep.boostStep_changes.mono (by decide)).trans (triggers.mono (by decide))
  obtain ⟨arb, air, prot⟩ := triggers.of_not_mem (i := .sequencer) (by decide)
  have phases : u.slewStep.boostStep.plantTrigger.plant.phases = u.slewStep.boostStep.plant.phases := by
    unfold Plant.phases
    rw [arb, prot]
  have boosts := u.slewStep.boostStep_eq
  have told := u.slewStep_eq
  show heeds _ s u.slewStep.boostStep.plantTrigger
  refine status_heeds (x := w.andIf (u.slewedAir.qb != u.plant.air.qb) shareTrigger) (old := u.plant)
    online own plant stepped (by decide) (plantFlags_of_sameBut stepped (by decide)) ⟨rfl, rfl, rfl⟩
    told tells (by decide) ?_
  rw [arb, air, phases, boosts]
  exact ⟨rfl, rfl, rfl⟩

/-- A reckoning's end tells its status once; a void one tells nothing (R108, R125). -/
theorem endPlant_heeds (plant : s.role = .plant) (f : PlantFlight) :
    heeds .plantReckoningEnd s ((s.reach f.due).endPlant f) := by
  set u := s.reach f.due
  have reach : s.sameBut [.clock] u := s.sameBut_reach f.due (by decide)
  unfold endPlant
  split_ifs
  · set v := u.onPlant fun p => { p with arb := p.arb.storeSums (sumsOf f.entries) }
    have stored : s.sameBut [.clock, .sequencer] v :=
      (reach.mono (by decide)).trans ((u.onPlant_sequencer_changes _ rfl).mono (by decide))
    have closes := v.closePlant_changes u.plant.mark
    have all : s.sameBut [.clock, .sequencer, .plantFlight] (v.closePlant u.plant.mark) :=
      (stored.mono (by decide)).trans (closes.mono (by decide))
    have stands : s.figuresStand v := ⟨rfl, rfl, rfl, rfl, rfl, rfl⟩
    refine still_heeds all (by decide) (stands.trans (figuresStand_of_sameBut closes (by decide))) ?_
      fun zone => Role.noConfusion (plant.symm.trans zone)
    unfold flagsDiffer
    rw [zoneFlags_of_sameBut all (by decide), plantFlags_of_sameBut all (by decide)]
    simp
  · extract_lets new s1
    have worked : s.sameBut [.clock, .sequencer] { u with plant := new } :=
      (reach.mono (by decide)).trans ((u.onPlant_sequencer_changes (fun _ => new) rfl).mono (by decide))
    have told := ({ u with plant := new } : State).tellShare_changes u.plant
    have all : s.sameBut [.clock, .sequencer, .shareFlight]
        (({ u with plant := new } : State).tellShare u.plant) :=
      (worked.mono (by decide)).trans (told.mono (by decide))
    have closes := s1.closePlant_changes (new.markAfter u.plant)
    obtain ⟨arb, air, prot⟩ := closes.of_not_mem (i := .sequencer) (by decide)
    refine status_heeds (m := s1) (old := u.plant) online own plant all (by decide)
      (plantFlags_of_sameBut all (by decide))
      ⟨rfl, rfl, rfl⟩ rfl closes (by decide) ⟨arb, air, ?_⟩
    unfold Plant.phases
    rw [arb, prot]

theorem plantEnd_heeds (held : s.held = false) (plant : s.role = .plant) :
    ∃ t, exec .plantReckoningEnd s = .next t ∧ heeds .plantReckoningEnd s t := by
  have un : ¬evaluates .plantReckoningEnd s := by simp [evaluates]
  have unchanged : heeds .plantReckoningEnd s s :=
    unchanged_heeds (s.sameBut_refl []) (by decide) fun _ => un
  refine ⟨_, rfl, ?_⟩
  rw [s.take_running _ held]
  unfold plantEnds
  split
  · exact unchanged
  next f flies =>
    split_ifs
    · exact endPlant_heeds online own plant f
    · exact unchanged

end

end State

open State in
/-- Settles O33: each event tells its causes in turn, and a second one after the first changes nothing. -/
theorem promptCausesAreActedOn : Obligations.PromptCausesAreActedOn := by
  intro s c held online own event
  rcases event with ⟨a, b, rfl⟩ | ⟨k, rfl⟩ | ⟨a, b, rfl⟩ | ⟨a, b, rfl⟩ | rfl | ⟨plant, rfl | rfl⟩
  · exact sample_heeds online own held a b
  · exact debounce_heeds online own held k
  · exact homing_heeds online own held a b
  · exact move_heeds online own held a b
  · exact aging_heeds online own held
  · exact plantTimer_heeds online own held plant
  · exact plantEnd_heeds online own held plant

end Sys2Proof.Machine
end
